-- ==== Sys2Proof/Word.lean ====
section
/-! DEFINITION. The plainest types of the Havelin H-36: bytes, flow numbers, station numbers. -/

namespace Sys2Proof

/-- A byte of a record or a character's eight data bits (spec/12, Bit order). -/
abbrev Byte := BitVec 8

/-- A flow number 0-63 (R1). -/
abbrev FlowId := Fin 64

/-- A station number 0-15 (R130). -/
abbrev StationId := Fin 16

end Sys2Proof
end

