-- ==== Sys2Proof/Syntax.lean ====
section
/-! DEFINITION. The commands of the block: one constructor for each row of spec/opcode_table.json, with
the operands the event brings in from outside the part. -/

namespace Sys2Proof

/-- An egress leg (R88). -/
inductive Leg where
  | a
  | b
  deriving DecidableEq, Repr

/-- The levels of the strap pins (R168). -/
structure Straps where
  /-- Station number (STN). -/
  stn : Fin 16
  /-- Peer line rate code (PLR, R110). -/
  plr : Fin 4
  /-- Capacity code (CAP, R32). -/
  cap : Fin 8
  /-- Solo operation (SOLO, R138). -/
  solo : Bool
  /-- Leg B fitted (LEGB, R108). -/
  legb : Bool
  deriving DecidableEq, Repr

/-- The fields of a DECLARE body at their widths (spec/12, Directive bodies). -/
structure Declaration where
  flow : Byte
  cls  : Byte
  legs : Byte
  pn   : BitVec 40
  pd   : BitVec 24
  n    : BitVec 16
  a    : BitVec 16
  t    : BitVec 16
  o    : BitVec 32
  bmax : Byte
  w    : BitVec 16
  smax : BitVec 16
  u    : Byte
  qmax : BitVec 16
  deriving DecidableEq, Repr

/-- The commands. A record of the intake stream appears as it stands at its arrival (R35, R159). -/
inductive Instr where
  /-- RESET_ASSERT: power-on reset or RST_N low (R168). -/
  | resetAssert
  /-- RESET_END: full reset ends with these pin levels (R109, R168). -/
  | resetEnd (straps : Straps) (permitA permitB freeze : Bool)
  /-- PACKET_ARRIVAL: a PACKET record with its tag's flow and flags and the bytes after the tag (R35). -/
  | packetArrival (flow : Byte) (frameStart runOpen runClose : Bool) (bytes : List Byte)
  /-- DECLARE (R4). -/
  | declare (d : Declaration)
  /-- CLOSE (R11). -/
  | close (flow : Byte)
  /-- ABANDON (R14). -/
  | abandon (flow : Byte)
  /-- QUERY_FLOW (R16). -/
  | queryFlow (flow : Byte)
  /-- QUERY_PEERS (R144). -/
  | queryPeers
  /-- QUERY_STATION (R163). -/
  | queryStation
  /-- LEG_CONTROL with action OUT (R94). -/
  | legControlOut (leg : Byte)
  /-- LEG_CONTROL with action IN (R95). -/
  | legControlIn (leg : Byte)
  /-- A DIRECTIVE record that check 1 of R160 refuses, with its body as received. -/
  | unknownDirective (body : List Byte)
  /-- OUTCOME_DELIVERY_START: outcome-ready is present (R166). -/
  | outcomeDeliveryStart
  /-- OUTCOME_DELIVERY_END: the last byte is delivered, with outcome-ready at this level (R166). -/
  | outcomeDeliveryEnd (ready : Bool)
  /-- TIME_STEP_STROBE (R72). -/
  | timeStepStrobe
  /-- TIME_READING: TIME_VALID and the station time value, sampled together (R72). -/
  | timeReading (valid : Bool) (value : BitVec 64)
  /-- BINDER_EXAMINATION of one flow's head unit (R54). -/
  | binderExamination (flow : FlowId)
  /-- CALENDAR_NAMES_ENTRY: the calendar answers the leg's open request (R84, R99). -/
  | calendarNamesEntry (leg : Leg)
  /-- TAKE, an answer on the leg's answer lines (R102). -/
  | take (leg : Leg)
  /-- RETRY (R103). -/
  | retry (leg : Leg)
  /-- FAULT (R104). -/
  | fault (leg : Leg)
  /-- RETRY_REOFFER: the leg acts on a slot-boundary signal in RETRY_WAIT (R103). -/
  | retryReoffer (leg : Leg)
  /-- PERMIT_FALL (R92). -/
  | permitFall (leg : Leg)
  /-- PERMIT_RISE (R92). -/
  | permitRise (leg : Leg)
  /-- STALL_TIMEOUT (R92). -/
  | stallTimeout (leg : Leg)
  /-- FREEZE_RISE (R97). -/
  | freezeRise
  /-- FREEZE_FALL (R97). -/
  | freezeFall
  /-- DRAIN_COMPLETE: the drain test of R12 finds the flow drained. -/
  | drainComplete (flow : FlowId)
  /-- DRAIN_LIMIT: the flow's drain timer runs out (R13). -/
  | drainLimit (flow : FlowId)
  /-- CLAIM_TIMEOUT: the claim timer runs out, the CLAIM being in its last stop bit or not (R116, R152). -/
  | claimTimeout (inLastStopBit : Bool)
  /-- NOTICE_START at a bit boundary after this many recessive bit times in a row (R112, R117, log 9). -/
  | noticeStart (recessive : Nat)
  /-- ARBITRATION_LOSS: dominant read where recessive was sent (R118). -/
  | arbitrationLoss
  /-- NOTICE_COMPLETE: the last stop bit of the own notice ends (R119). -/
  | noticeComplete
  /-- NOTICE_RECEIVED: the character that brings a notice to its full length (R122). -/
  | noticeReceived (last : Byte)
  /-- FRAMING_ERROR: a run of dominant bits through a stop bit ends before 12 bit times (R120). -/
  | framingError
  /-- UNKNOWN_HEADER: a character with mark 1 that is no expected header (R121). -/
  | unknownHeader (value : Byte)
  /-- WIRE_FREE: 12 recessive bit times (R120). -/
  | wireFree
  /-- BREAK_START at a bit boundary after this many recessive bit times in a row (R117, R123, log 9). -/
  | breakStart (recessive : Nat)
  /-- BREAK_COMPLETE: the dominant run of the own break ends, held longer than its 14 bit times or not (R123). -/
  | breakComplete (heldLonger : Bool)
  /-- BREAK_HEARD: the twelfth dominant bit time (R124). -/
  | breakHeard
  /-- STUCK_LINE: the sixty-fourth dominant bit time (R125). -/
  | stuckLine
  /-- WIRE_RESTORED: 12 recessive bit times while ISOLATED (R125). -/
  | wireRestored
  /-- LISTEN_IN_TIMEOUT (R139). -/
  | listenInTimeout
  /-- REFRESH_TICK (R136). -/
  | refreshTick
  /-- CHARACTER_RECEIVED: a well-formed character with its data bits and mark bit (R121). -/
  | characterReceived (value : Byte) (mark : Bool)
  deriving DecidableEq, Repr

end Sys2Proof
end

