-- ==== Sys2Proof/Config.lean ====
section
/-! DEFINITION. The fixed numbers of the part: limits, periods and thresholds, each with its rule.
The spec leaves no value of the part undefined, so there is no free value here. -/

namespace Sys2Proof.Config

/-- Recessive bit times in a row at which the wire is free, and at which it is after an own notice (R112). -/
def idleBits : Nat := 12
def ownIdleBits : Nat := 16

/-- Dominant bit times in a row at which a run is a break, and at which the wire is stuck (R124, R125). -/
def breakBits : Nat := 12
def stuckBits : Nat := 64

/-- A 32-bit counter stops here (R2, R37, R107, R128). -/
def counterMax : Nat := 4294967295

/-- Cells of the Cell Store (R38). -/
def cellCount : Nat := 8192

/-- Bytes of one cell (R38). -/
def cellBytes : Nat := 256

/-- Intake-ready is given while the pool holds this many cells (R39). -/
def readyCells : Nat := 8

/-- Shortest and longest packet (R36). -/
def minPacket : Nat := 64
def maxPacket : Nat := 2048

/-- Most units of one flow in one leg queue (R89). -/
def legQueueMax : Nat := 8

/-- Most records in the outcome queue (R165). -/
def outcomeMax : Nat := 64

/-- One slot of station time, and one reading period of the part's own clock, in ns (R19, R72). -/
def slotNs : Nat := 32

/-- The lead of a lock frame, in ns (R28). -/
def leadNs : Nat := 8000

/-- The largest movement between two readings that is no step, in ns (R74). -/
def forwardMaxNs : Nat := 32768

/-- Periods of the part's timers, in ns of its own clock (R11, R88, R136, R139, R146). -/
def drainNs : Nat := 1000000000
def stallNs : Nat := 10000000
def refreshNs : Nat := 100000000
def listenNs : Nat := 200000000
def claimNs : Nat := 500000000

/-- A packet is retried while its retry count is below this (R103). -/
def retryMax : Nat := 3

/-- A load is stored or sent as at most this (R34, R115). -/
def amountMax : Nat := 16777215

/-- Largest flow count a peer entry stores (R133). -/
def flowCountMax : Nat := 64

/-- Ages at which a peer entry becomes STALE and ABSENT (R136). -/
def staleAge : Nat := 3
def lostAge : Nat := 8

end Sys2Proof.Config
end

