-- ==== Sys2Proof/Machine/State.lean ====
section
/-! DEFINITION. The state of the part as plain data, block by block, and the state right after full
reset. -/

namespace Sys2Proof.Machine

/-! ## The Flow Table, the Binder's record and the queues of a flow -/

/-- The six flow states (R1). -/
inductive FlowState where
  | free
  | claimWait
  | claiming
  | armed
  | running
  | draining
  deriving DecidableEq, Repr

/-- A flow's pacing pattern (R5). -/
inductive FlowClass where
  | essence
  | rasterLinear
  | rasterGapped
  deriving DecidableEq, Repr

/-- The legs a flow uses (R5). `none` is the value 0 of a record that was never declared (R18). -/
inductive Legs where
  | none
  | a
  | b
  | dual
  deriving DecidableEq, Repr

/-- The declared parameters (R1, R5). -/
structure Params where
  cls  : FlowClass
  legs : Legs
  pn   : Nat
  pd   : Nat
  n    : Nat
  a    : Nat
  t    : Nat
  o    : Nat
  bmax : Nat
  w    : Nat
  smax : Nat
  u    : Nat
  qmax : Nat
  deriving DecidableEq, Repr

/-- The derived values: Pint, Prem, Sd, q_S, r_S, L and Wf (R1, R21, R23, R30, R31). -/
structure Derived where
  pint : Nat
  prem : Nat
  sd   : Nat
  qs   : Nat
  rs   : Nat
  load : Nat
  wf   : Nat
  deriving DecidableEq, Repr

/-- The six counters a flow keeps per leg (R2). -/
structure LegCounts where
  sent    : Nat
  late    : Nat
  lag     : Nat
  sink    : Nat
  fault   : Nat
  retries : Nat
  deriving DecidableEq, Repr

/-- The fifteen flow counters (R2). -/
structure FlowCounters where
  legA         : LegCounts
  legB         : LegCounts
  intakeOver   : Nat
  oversize     : Nat
  runMalformed : Nat
  shortFrame   : Nat
  longFrame    : Nat
  lockDiscard  : Nat
  skipped      : Nat
  step         : Nat
  closeFlush   : Nat
  deriving DecidableEq, Repr

/-- What the Binder holds for a LOCKED flow (R53): the schedule position (k,j), the frame base pair
(q,r) of R22, the offset pair of R24, and the lock frame from which the Release Calendar takes the
flow's credit slots (R27, R81). -/
structure Position where
  k         : Nat
  j         : Nat
  q         : Nat
  r         : Nat
  off       : Nat
  rem       : Nat
  lockFrame : Nat
  deriving DecidableEq, Repr

/-- A flow's assembly slot (R41): EMPTY, OPEN with the run's unit, or REFUSED with the count of packets seen. -/
inductive Slot where
  | empty
  | opened (unit : Nat)
  | refused (count : Nat)
  deriving DecidableEq, Repr

/-- Everything the part holds for one flow number. The Flow Table owns the record (R1), the Binder
`lock` (R53), the Intake Unit `slot` and `intakeQ` (R41, R51), the Release Calendar the credits (R80),
the Leg Transmitters the leg queues (R89). Queues hold unit numbers, oldest first. -/
structure Flow where
  state    : FlowState
  params   : Params
  derived  : Derived
  cancel   : Bool
  /-- Deadline of the 1 s drain timer on the part's own clock, absent while stopped (R11). -/
  drain    : Option Nat
  counters : FlowCounters
  /-- LOCKED with its position, or UNLOCKED (R53). -/
  lock     : Option Position
  slot     : Slot
  intakeQ  : List Nat
  creditA  : Nat
  creditB  : Nat
  queueA   : List Nat
  queueB   : List Nat
  deriving DecidableEq, Repr

/-! ## The Cell Store -/

/-- A unit (R41): an open run, or a complete unit. `packets` are the bytes of its packets in arrival
order, `holders` the holder count of R40, `due` the due time D once bound. -/
structure Bundle where
  id         : Nat
  flow       : FlowId
  packets    : List (List Byte)
  frameStart : Bool
  holders    : Nat
  due        : Option Nat
  deriving DecidableEq, Repr

/-- The Cell Store's free pool and held units, and the Intake Unit's station counters (R37, R38, R40). -/
structure Store where
  freeCells : Nat
  units     : List Bundle
  nextId    : Nat
  stray     : Nat
  badLength : Nat
  deriving DecidableEq, Repr

/-! ## The time port and the cursor -/

/-- The calendar's time state (R73). -/
structure TimeState where
  cursor   : Option Nat
  previous : Option Nat
  latch    : Bool
  valid    : Bool
  deriving DecidableEq, Repr

/-! ## The egress legs -/

/-- Service state of a leg (R88, R92). -/
inductive Service where
  | up
  | stalled
  | down
  | out
  deriving DecidableEq, Repr

/-- Phase of the unit in hand: OFFERING, or RETRY_WAIT with whether a slot-boundary signal has come
since (R101, R103). IDLE is the absence of a unit in hand (R88). -/
inductive Phase where
  | offering
  | retryWait (signalled : Bool)
  deriving DecidableEq, Repr

/-- The unit in hand (R88): its number, the index of the packet being offered (from 1), that packet's
retry count, the phase, and whether the unit is detached from its flow (R10). -/
structure Hand where
  unit     : Nat
  index    : Nat
  retries  : Nat
  phase    : Phase
  detached : Bool
  deriving DecidableEq, Repr

/-- The eight leg counters (R107). -/
structure LegTotals where
  packetsTaken : Nat
  unitsSent    : Nat
  retries      : Nat
  faults       : Nat
  strayAnswer  : Nat
  sinkTotal    : Nat
  lateTotal    : Nat
  lagTotal     : Nat
  deriving DecidableEq, Repr

/-- A Leg Transmitter's record (R88). -/
structure EgressLeg where
  service  : Service
  permit   : Bool
  /-- Deadline of the 10 ms stall timer on the part's own clock, absent while stopped. -/
  stall    : Option Nat
  hand     : Option Hand
  request  : Bool
  counters : LegTotals
  deriving DecidableEq, Repr

/-! ## The Peer Line Controller -/

/-- A notice's content (R113, R114): YIELD and CLAIM with leg mask and amount, LOAD with loads and flow count. -/
inductive Notice where
  | yield (mask amount : Nat)
  | claim (mask amount : Nat)
  | load (loadA loadB count : Nat)
  deriving DecidableEq, Repr

/-- An entry of the send list, with its marks (R114, R115). -/
structure SendEntry where
  notice  : Notice
  onWire  : Bool
  changed : Bool
  deriving DecidableEq, Repr

/-- The receiver (R120): WAIT_FREE, HUNT, or IN_NOTICE with the characters taken so far. -/
inductive Receiver where
  | waitFree
  | hunt
  | inNotice (chars : List Byte)
  deriving DecidableEq, Repr

/-- The station's own free point: 12 bit times, or 16 after an own notice (R112). -/
inductive FreePoint where
  | normal
  | later
  deriving DecidableEq, Repr

/-- The six line counters (R128). -/
structure LineCounters where
  noticesSent   : Nat
  losses        : Nat
  framingErrors : Nat
  checkErrors   : Nat
  formatErrors  : Nat
  breaksHeard   : Nat
  deriving DecidableEq, Repr

/-- The receiver's counts of recessive and of dominant bit times in a row (R112, R120, R124, R125, R129), as the events
of the line leave them (log 9). -/
structure BitCounts where
  recessive : Nat
  dominant  : Nat
  deriving DecidableEq, Repr

/-- No bit time counted yet: after full reset (R129), and where a count begins anew. -/
def BitCounts.zero : BitCounts := ⟨0, 0⟩

/-- The wire has become free (R112, R120). -/
def BitCounts.idle : BitCounts := ⟨Config.idleBits, 0⟩

/-- The dominant run is a break (R124). -/
def BitCounts.broken : BitCounts := ⟨0, Config.breakBits⟩

/-- The dominant run is a stuck wire (R125). -/
def BitCounts.stuck : BitCounts := ⟨0, Config.stuckBits⟩

/-- The Peer Line Controller (R114, R117, R120, R123, R128, R129). -/
structure Line where
  receiver     : Receiver
  /-- The content of the notice being sent, as it was at its start bit (R113). -/
  sending      : Option Notice
  sendList     : List SendEntry
  pendingBreak : Bool
  /-- The station is driving its own break (R123). -/
  driving      : Bool
  freePoint    : FreePoint
  /-- Arbitration was lost inside a non-header character that has not ended yet (R118). -/
  bodyLoss     : Bool
  bits         : BitCounts
  counters     : LineCounters
  deriving DecidableEq, Repr

/-! ## The Share View and the Admission Unit -/

/-- State of a peer entry (R130). -/
inductive PeerState where
  | absent
  | live
  | stale
  deriving DecidableEq, Repr

/-- A peer entry (R130). -/
structure PeerEntry where
  state : PeerState
  loadA : Nat
  loadB : Nat
  count : Nat
  age   : Nat
  deriving DecidableEq, Repr

/-- Station states (R138-R142). -/
inductive StationState where
  | solo
  | listenIn
  | active
  | isolated
  | duplicate
  deriving DecidableEq, Repr

/-- The Share View (R130, R136, R139). The place of the own number in `peers` is not read: the own
entry's loads stand in `Admission`. Timers are deadlines on the part's own clock. -/
structure View where
  peers   : Vector PeerEntry 16
  station : StationState
  refresh : Nat
  listen  : Option Nat
  deriving DecidableEq, Repr

/-- The Admission Unit (R146). -/
structure Admission where
  claimQueue : List FlowId
  claiming   : Option FlowId
  claimTimer : Option Nat
  ownA       : Nat
  ownB       : Nat
  deriving DecidableEq, Repr

/-! ## Outcome records -/

/-- Codes of FLOW_REFUSED (spec/12, Code values). -/
inductive RefusedCode where
  | noShare
  | claimTimeout
  | lineIsolated
  | duplicateStation
  deriving DecidableEq, Repr

/-- Reasons of FLOW_CLOSED. -/
inductive ClosedReason where
  | drained
  | drainLimit
  | abandoned
  | withdrawn
  deriving DecidableEq, Repr

/-- Codes of FLOW_LOCK. -/
inductive LockCode where
  | locked
  | relocked
  deriving DecidableEq, Repr

/-- Codes of DIRECTIVE_REFUSED. -/
inductive DirectiveCode where
  | unknownDirective
  | badFlow
  | badLeg
  | flowBusy
  | notDeclared
  | closing
  | badClass
  | badLegs
  | badPeriod
  | badCount
  | badRatio
  | badOffset
  | badBurst
  | badSize
  | badUnit
  | badQueue
  | badRate
  | loadTooLarge
  deriving DecidableEq, Repr

/-- Codes of PEER_EVENT. -/
inductive PeerCode where
  | joined
  | stale
  | lost
  | duplicate
  deriving DecidableEq, Repr

/-- Codes of LINE_EVENT. -/
inductive LineCode where
  | active
  | isolated
  | restored
  deriving DecidableEq, Repr

/-- Codes of LEG_EVENT. -/
inductive LegCode where
  | up
  | stalled
  | down
  | out
  | into
  deriving DecidableEq, Repr

/-- Codes of TIME_EVENT. -/
inductive TimeCode where
  | step
  | impliedStep
  | invalid
  deriving DecidableEq, Repr

/-- What a FLOW_REPORT carries (R16). -/
structure FlowReport where
  state      : FlowState
  cancel     : Bool
  cls        : FlowClass
  legs       : Legs
  load       : Nat
  locked     : Bool
  k          : Nat
  j          : Nat
  creditA    : Nat
  creditB    : Nat
  intake     : Nat
  openRun    : Bool
  queueA     : Nat
  queueB     : Nat
  drainMs    : Nat
  counters   : FlowCounters
  deriving DecidableEq, Repr

/-- A leg as the STATION_REPORT shows it; `none` for a leg that is not fitted (R108, R163, R171). -/
structure LegReport where
  service  : Service
  phase    : Option Phase
  counters : LegTotals
  deriving DecidableEq, Repr

/-- What a STATION_REPORT carries (R163). -/
structure StationReport where
  station   : StationState
  straps    : Straps
  timeValid : Bool
  freeCells : Nat
  legA      : Option LegReport
  legB      : Option LegReport
  line      : LineCounters
  stray     : Nat
  badLength : Nat
  deriving DecidableEq, Repr

/-- The kinds of outcome with their subject, code and body (R164). -/
inductive Outcome where
  | flowAdmitted (flow : FlowId)
  | flowRefused (flow : FlowId) (code : RefusedCode)
  | flowLock (flow : FlowId) (code : LockCode) (k : Nat)
  | flowClosed (flow : FlowId) (reason : ClosedReason) (cls : FlowClass) (legs : Legs) (counters : FlowCounters)
  | flowReport (flow : FlowId) (report : FlowReport)
  | stationReport (station : StationId) (report : StationReport)
  | peerReport (station : StationId) (entry : PeerEntry)
  | peerEnd (station : StationId) (state : StationState) (loadA loadB count reports : Nat)
  | peerEvent (station : StationId) (code : PeerCode)
  | lineEvent (station : StationId) (code : LineCode)
  | legEvent (leg : Leg) (code : LegCode)
  | timeEvent (code : TimeCode)
  | directiveRefused (code : DirectiveCode) (subject directive : Byte)
  deriving DecidableEq, Repr

/-- An outcome record: the LOST flag, the station time at creation, and the outcome (R164, R165). -/
structure Record where
  lost    : Bool
  time    : Nat
  outcome : Outcome
  deriving DecidableEq, Repr

/-- The Card Port's outcome side (R165, R166). -/
structure Port where
  outcomes   : List Record
  lossMark   : Bool
  delivering : Bool
  deriving DecidableEq, Repr

/-! ## The machine -/

/-- The whole part. -/
structure State where
  /-- Full reset is being held (R168). -/
  inReset  : Bool
  straps   : Straps
  /-- The part's own clock in ns since the end of full reset: the model's own field (log 4). -/
  ownClock : Nat
  /-- Level of the freeze line (R97). -/
  freeze   : Bool
  port     : Port
  time     : TimeState
  store    : Store
  flows    : Vector Flow 64
  legA     : EgressLeg
  legB     : EgressLeg
  line     : Line
  view     : View
  adm      : Admission
  /-- The commands that wait, first in, first out: the model's own field. -/
  pending  : List Instr
  deriving DecidableEq, Repr

/-- The spec names no event that stops the part, so there is no fault to raise. -/
inductive Fault where
  deriving DecidableEq, Repr

/-- Why a command has no meaning. -/
inductive Refusal where
  /-- Raised by an arm of `exec` whose command has no meaning yet. Safe: the model stops. No arm raises it. -/
  | notModelled (mnemonic : String)
  deriving DecidableEq, Repr

/-! ## The state after full reset -/

/-- Zero counters (R18, R109, R129). -/
def LegCounts.zero : LegCounts := ⟨0, 0, 0, 0, 0, 0⟩

def FlowCounters.zero : FlowCounters := ⟨.zero, .zero, 0, 0, 0, 0, 0, 0, 0, 0, 0⟩

def LegTotals.zero : LegTotals := ⟨0, 0, 0, 0, 0, 0, 0, 0⟩

def LineCounters.zero : LineCounters := ⟨0, 0, 0, 0, 0, 0⟩

def Params.zero : Params := ⟨.essence, .none, 0, 0, 0, 0, 0, 0, 0, 0, 0, 0, 0⟩

def Derived.zero : Derived := ⟨0, 0, 0, 0, 0, 0, 0⟩

/-- A flow number after full reset (R18, R52, R71, R87). -/
def Flow.afterReset : Flow :=
  { state := .free, params := .zero, derived := .zero, cancel := false, drain := none,
    counters := .zero, lock := none, slot := .empty, intakeQ := [], creditA := 0, creditB := 0,
    queueA := [], queueB := [] }

/-- A fitted leg cleared by full reset, by its permit line (R109); no request of it is open at the calendar (R87). -/
def EgressLeg.cleared (permit : Bool) : EgressLeg :=
  { service := if permit then .up else .stalled, permit := permit,
    stall := if permit then none else some Config.stallNs, hand := none,
    request := false, counters := .zero }

/-- A fitted leg after full reset: cleared with no request open (R87), it then opens its request where serving
is allowed, the permit line on and the freeze line low (R98, R109, log 29). -/
def EgressLeg.afterReset (permit freeze : Bool) : EgressLeg :=
  { EgressLeg.cleared permit with request := permit && !freeze }

/-- The place of a leg that is not fitted; nothing reads it (R108). -/
def EgressLeg.notFitted : EgressLeg :=
  { service := .down, permit := false, stall := none, hand := none, request := false, counters := .zero }

/-- An ABSENT peer entry (R130). -/
def PeerEntry.absent : PeerEntry := ⟨.absent, 0, 0, 0, 0⟩

/-- The part at the end of a full reset with these straps and pin levels (R18, R52, R71, R87, R109,
R129, R145, R158, R169); the commands that wait stay. -/
def State.afterReset (straps : Straps) (permitA permitB freeze : Bool) (pending : List Instr) : State :=
  { inReset := false
    straps := straps
    ownClock := 0
    freeze := freeze
    port := { outcomes := [], lossMark := false, delivering := false }
    time := { cursor := none, previous := none, latch := false, valid := false }
    store := { freeCells := Config.cellCount, units := [], nextId := 0, stray := 0, badLength := 0 }
    flows := Vector.replicate 64 Flow.afterReset
    legA := EgressLeg.afterReset permitA freeze
    legB := if straps.legb then EgressLeg.afterReset permitB freeze else EgressLeg.notFitted
    line := { receiver := .waitFree, sending := none, sendList := [], pendingBreak := !straps.solo,
              driving := false, freePoint := .normal, bodyLoss := false, bits := .zero,
              counters := .zero }
    view := { peers := Vector.replicate 16 PeerEntry.absent,
              station := if straps.solo then .solo else .listenIn,
              refresh := Config.refreshNs, listen := none }
    adm := { claimQueue := [], claiming := none, claimTimer := none, ownA := 0, ownB := 0 }
    pending := pending }

/-- The machine right after a full reset that found every strap and input pin at 0. The straps and the
levels of the permit and freeze lines are a DESIGN CHOICE (log 5). -/
def State.reset : State :=
  State.afterReset ⟨0, 0, 0, false, false⟩ false false false []

end Sys2Proof.Machine
end

