-- ==== Sys2Proof/Machine/Pacing.lean ====
section
/-! DEFINITION. Pacing Arithmetic (spec/02): slots, the frame grid, release instants, lock frame,
lateness, credit slots, committed load and capacity. All of it is exact integer arithmetic (R20). -/

namespace Sys2Proof.Machine

/-- ceil(a / b), rounding up (R20). -/
def divUp (a b : Nat) : Nat := (a + b - 1) / b

/-- slot(x) (R19). -/
def slotOf (x : Nat) : Nat := x / Config.slotNs

/-- The start of a slot (R19). -/
def slotStart (s : Nat) : Nat := Config.slotNs * s

/-! ## Capacity (R32) -/

/-- The capacity C of each leg in Mbit/s (R32). -/
def capacity (cap : Fin 8) : Nat :=
  match cap with
  | 0 => 1000
  | 1 => 2500
  | 2 => 5000
  | 3 => 10000
  | 4 => 25000
  | 5 => 40000
  | 6 => 50000
  | 7 => 100000

/-- The admission limit floor(C × 15 / 16) (R32). -/
def admissionLimit (cap : Fin 8) : Nat := capacity cap * 15 / 16

/-- The bit time of the peer line in ns (R110). -/
def bitTimeNs (plr : Fin 4) : Nat :=
  match plr with
  | 0 => 4000
  | 1 => 2000
  | 2 => 1000
  | 3 => 500

/-! ## Derived values (R21, R23, R30, R31) -/

/-- Sn = Pn × A (R23). -/
def Params.sn (p : Params) : Nat := p.pn * p.a

/-- Sd = Pd × T × N (R23). -/
def Params.sd (p : Params) : Nat := p.pd * p.t * p.n

/-- Pint = Pn div Pd (R21). -/
def Params.pint (p : Params) : Nat := p.pn / p.pd

/-- L = ceil(N × U × (Smax + 24) × 8,000 × Pd / Pn) (R31). -/
def Params.load (p : Params) : Nat :=
  divUp (p.n * p.u * (p.smax + 24) * 8000 * p.pd) p.pn

/-- Wf: W × 1,000 ns, or Pint when W is 0 (R30). -/
def Params.wf (p : Params) : Nat := if p.w = 0 then p.pint else p.w * 1000

/-- The derived values the Flow Table computes when a DECLARE is accepted (R6). -/
def Params.derive (p : Params) : Derived :=
  { pint := p.pint, prem := p.pn % p.pd, sd := p.sd, qs := p.sn / p.sd, rs := p.sn % p.sd,
    load := p.load, wf := p.wf }

/-! ## The frame grid and release instants (R21, R24) -/

/-- F(k) = floor(k × Pn / Pd) + O (R21). -/
def Params.frameStart (p : Params) (k : Nat) : Nat := k * p.pn / p.pd + p.o

/-- off(j) = floor(j × Sn / Sd) (R24). -/
def Params.offset (p : Params) (j : Nat) : Nat := j * p.sn / p.sd

/-- R(k,j) = F(k) + off(j) (R24). -/
def Params.instant (p : Params) (k j : Nat) : Nat := p.frameStart k + p.offset j

/-- k_lock = max(0, ceil((now + 8,000 − O) × Pd / Pn)) (R28): where the sum is negative the difference
of naturals is 0 and so is its ceiling. -/
def Params.lockFrame (p : Params) (now : Nat) : Nat :=
  divUp ((now + Config.leadNs - p.o) * p.pd) p.pn

/-! ## The Binder's carried position (R22, R24, R53) -/

/-- The position (k,0) computed directly from a lock frame k (R22, R56, R61). -/
def Position.atLock (p : Params) (k : Nat) : Position :=
  { k := k, j := 0, q := k * p.pn / p.pd, r := k * p.pn % p.pd, off := 0, rem := 0, lockFrame := k }

/-- The position moved to (k+1, 0): the base pair carried by one frame, the offset pair 0 (R22). -/
def Position.nextFrame (p : Params) (d : Derived) (x : Position) : Position :=
  if p.pd ≤ x.r + d.prem then
    { x with k := x.k + 1, j := 0, q := x.q + (d.pint + 1), r := x.r + d.prem - p.pd, off := 0, rem := 0 }
  else
    { x with k := x.k + 1, j := 0, q := x.q + d.pint, r := x.r + d.prem, off := 0, rem := 0 }

/-- The position moved to (k, j+1): the offset pair carried by one step (R24). -/
def Position.nextIndex (d : Derived) (x : Position) : Position :=
  if d.sd ≤ x.rem + d.rs then
    { x with j := x.j + 1, off := x.off + (d.qs + 1), rem := x.rem + d.rs - d.sd }
  else
    { x with j := x.j + 1, off := x.off + d.qs, rem := x.rem + d.rs }

/-- The advance after a binding or a late discard at binding (R65). -/
def Position.advance (p : Params) (d : Derived) (x : Position) : Position :=
  if x.j + 1 < p.n then x.nextIndex d else x.nextFrame p d

/-- F(k) at the carried position (R22). -/
def Position.frameStart (p : Params) (x : Position) : Nat := x.q + p.o

/-- D = R(k,j) at the carried position (R24, R63). -/
def Position.due (p : Params) (x : Position) : Nat := x.q + p.o + x.off

/-! ## Lateness (R29, R30) -/

/-- now − x, held signed, is greater than the limit (R20, R29). -/
def exceeds (now x limit : Nat) : Bool := decide ((limit : Int) < (now : Int) - (x : Int))

/-- A unit with due time D is late for discard (R29). -/
def Params.late (p : Params) (now due : Nat) : Bool :=
  decide (0 < p.w) && exceeds now due (p.w * 1000)

/-! ## Credit slots (R27, R75) -/

/-- How many schedule instants R(k,j) with k ≥ `first` and j < N are at most t. The frames with
F(k) ≤ t are the first ceil((t + 1 − O) × Pd / Pn), and the indices with off(j) ≤ y the first
ceil((y + 1) × Sd / Sn). -/
def Params.instantsThrough (p : Params) (first t : Nat) : Nat :=
  let frames := divUp ((t + 1 - p.o) * p.pd) p.pn
  if frames ≤ first then 0
  else
    let k := frames - 1
    (k - first) * p.n + min p.n (divUp ((t - p.frameStart k + 1) * p.sd) p.sn)

/-- The number of credit slots in lo + 1 to hi for a flow locked at frame `first` (R27, R75). Each
slot holds at most one instant of a flow (R25), so slots are counted by instants. -/
def Params.creditSlots (p : Params) (first lo hi : Nat) : Nat :=
  p.instantsThrough first (slotStart hi + (Config.slotNs - 1))
    - p.instantsThrough first (slotStart lo + (Config.slotNs - 1))

/-- Class rank of the Release Calendar's tie order (R84). -/
def FlowClass.rank (c : FlowClass) : Nat :=
  match c with
  | .essence => 0
  | .rasterLinear => 1
  | .rasterGapped => 2

end Sys2Proof.Machine
end

