-- ==== Sys2Proof/Machine/Ops.lean ====
section
/-! DEFINITION. The named operations the meanings share: counters, flows and legs, the Cell Store, the
outcome queue, the clocks, and the requests of the legs. -/

namespace Sys2Proof.Machine

/-! ## Counters -/

/-- A 32-bit counter that stops at its maximum raised by d (R2). -/
def raise (c d : Nat) : Nat := min (c + d) Config.counterMax

/-- A counter raised by one. -/
def bump (c : Nat) : Nat := raise c 1

/-! ## Lists and vectors -/

/-- The list with g applied to its first element that satisfies p. -/
def updateFirst {α : Type} (p : α → Bool) (g : α → α) : List α → List α
  | [] => []
  | x :: xs => if p x then g x :: xs else x :: updateFirst p g xs

/-- All flow numbers in order. -/
def allFlows : List FlowId := List.finRange 64

/-- All station numbers in order. -/
def allStations : List StationId := List.finRange 16

/-! ## Legs of a flow -/

/-- Whether the legs include a leg (R5). -/
def Legs.uses (x : Legs) (l : Leg) : Bool :=
  match x, l with
  | .a, .a => true
  | .b, .b => true
  | .dual, _ => true
  | _, _ => false

/-- The legs in order, A before B. -/
def Legs.list (x : Legs) : List Leg :=
  match x with
  | .none => []
  | .a => [.a]
  | .b => [.b]
  | .dual => [.a, .b]

/-- The code of the legs, which is the leg mask of a notice (spec/12, R148). -/
def Legs.code (x : Legs) : Nat :=
  match x with
  | .none => 0
  | .a => 1
  | .b => 2
  | .dual => 3

/-- Whether a leg mask names a leg (R113). -/
def maskNames (mask : Nat) (l : Leg) : Bool :=
  match l with
  | .a => mask % 2 == 1
  | .b => mask / 2 % 2 == 1

/-! ## Parts of a flow by leg -/

def Flow.queue (x : Flow) (l : Leg) : List Nat :=
  match l with
  | .a => x.queueA
  | .b => x.queueB

def Flow.setQueue (x : Flow) (l : Leg) (q : List Nat) : Flow :=
  match l with
  | .a => { x with queueA := q }
  | .b => { x with queueB := q }

def Flow.credit (x : Flow) (l : Leg) : Nat :=
  match l with
  | .a => x.creditA
  | .b => x.creditB

def Flow.setCredit (x : Flow) (l : Leg) (c : Nat) : Flow :=
  match l with
  | .a => { x with creditA := c }
  | .b => { x with creditB := c }

def FlowCounters.leg (c : FlowCounters) (l : Leg) : LegCounts :=
  match l with
  | .a => c.legA
  | .b => c.legB

def FlowCounters.setLeg (c : FlowCounters) (l : Leg) (x : LegCounts) : FlowCounters :=
  match l with
  | .a => { c with legA := x }
  | .b => { c with legB := x }

/-- The flow with its per-leg counters of one leg changed. -/
def Flow.countOn (x : Flow) (l : Leg) (g : LegCounts → LegCounts) : Flow :=
  { x with counters := x.counters.setLeg l (g (x.counters.leg l)) }

/-- The flow with its counters changed. -/
def Flow.count (x : Flow) (g : FlowCounters → FlowCounters) : Flow :=
  { x with counters := g x.counters }

/-- ARMED or RUNNING: the flow accepts intake (R3). -/
def Flow.accepts (x : Flow) : Bool := x.state == .armed || x.state == .running

/-- ARMED, RUNNING or DRAINING: the flow holds load and may be examined (R3, R155). -/
def Flow.holdsLoad (x : Flow) : Bool := x.accepts || x.state == .draining

/-- The intake queue, the assembly slot and every leg queue are empty (R12). A REFUSED slot holds no run. -/
def Flow.drained (x : Flow) : Bool :=
  x.intakeQ.isEmpty && x.queueA.isEmpty && x.queueB.isEmpty &&
    (match x.slot with
     | .opened _ => false
     | _ => true)

/-- The credits of both legs at 0 (R81). -/
def Flow.noCredit (x : Flow) : Flow := { x with creditA := 0, creditB := 0 }

/-! ## Access to the state -/

def State.flow (s : State) (f : FlowId) : Flow := s.flows[f.val]

def State.setFlow (s : State) (f : FlowId) (x : Flow) : State :=
  { s with flows := s.flows.set f.val x }

/-- One flow changed. -/
def State.modFlow (s : State) (f : FlowId) (g : Flow → Flow) : State := s.setFlow f (g (s.flow f))

def State.leg (s : State) (l : Leg) : EgressLeg :=
  match l with
  | .a => s.legA
  | .b => s.legB

def State.setLeg (s : State) (l : Leg) (x : EgressLeg) : State :=
  match l with
  | .a => { s with legA := x }
  | .b => { s with legB := x }

/-- One leg changed. -/
def State.modLeg (s : State) (l : Leg) (g : EgressLeg → EgressLeg) : State := s.setLeg l (g (s.leg l))

/-- The leg is fitted (R108). -/
def State.fitted (s : State) (l : Leg) : Bool :=
  match l with
  | .a => true
  | .b => s.straps.legb

/-! ## Clocks -/

/-- now, the start of the cursor's slot, while the time is valid (R19, R54). -/
def State.now? (s : State) : Option Nat :=
  if s.time.valid then s.time.cursor.map slotStart else none

/-- The station time a record created now carries (R164). -/
def State.stationTime (s : State) : Nat :=
  match s.time.cursor with
  | some c => slotStart c
  | none => 0

/-- The part's own clock moved on to a timer's deadline, where it is not there already (log 4). -/
def State.reach (s : State) (deadline : Nat) : State :=
  { s with ownClock := max s.ownClock deadline }

/-- The time remaining of a timer (R11, R88, R146). -/
def State.remaining (s : State) (timer : Option Nat) : Nat :=
  match timer with
  | some d => d - s.ownClock
  | none => 0

/-! ## The outcome queue (R165) -/

/-- A record joins the queue, or is dropped with the loss mark set. -/
def Port.add (p : Port) (time : Nat) (o : Outcome) : Port :=
  if p.outcomes.length < Config.outcomeMax then
    { p with outcomes := p.outcomes ++ [⟨p.lossMark, time, o⟩], lossMark := false }
  else { p with lossMark := true }

/-- An outcome is created in this event (R164, R165). -/
def State.emit (s : State) (o : Outcome) : State :=
  { s with port := s.port.add s.stationTime o }

/-! ## The Cell Store (R38, R40, R41) -/

/-- Cells of one packet: ceil(b / 256) (R38). -/
def cellsOf (bytes : List Byte) : Nat := divUp bytes.length Config.cellBytes

/-- Cells of a unit: the sum of its packets' cells (R38). -/
def Bundle.cells (u : Bundle) : Nat := (u.packets.map cellsOf).sum

/-- The unit with a number. -/
def Store.find (st : Store) (id : Nat) : Option Bundle := st.units.find? (fun u => u.id == id)

/-- A packet starts a unit, which the assembly slot or the intake queue holds: its cells leave the free
pool (R38, R40). The unit's number is the store's next one. -/
def Store.start (st : Store) (f : FlowId) (frameStart : Bool) (bytes : List Byte) : Store :=
  { st with
    freeCells := st.freeCells - cellsOf bytes
    units := st.units ++ [{ id := st.nextId, flow := f, packets := [bytes], frameStart := frameStart,
                            holders := 1, due := none }]
    nextId := st.nextId + 1 }

/-- A packet joins a unit: its cells leave the free pool (R45). -/
def Store.join (st : Store) (id : Nat) (bytes : List Byte) : Store :=
  match st.find id with
  | none => st
  | some _ =>
    { st with
      freeCells := st.freeCells - cellsOf bytes
      units := updateFirst (fun u => u.id == id) (fun u => { u with packets := u.packets ++ [bytes] }) st.units }

/-- One holder lets the unit go; at the last one its cells return to the free pool (R40). -/
def Store.release (st : Store) (id : Nat) : Store :=
  match st.find id with
  | none => st
  | some u =>
    if u.holders ≤ 1 then
      { st with freeCells := st.freeCells + u.cells, units := st.units.eraseP (fun v => v.id == id) }
    else
      { st with units := updateFirst (fun v => v.id == id) (fun v => { v with holders := v.holders - 1 }) st.units }

/-- The unit is bound: its due time is fixed and the intake queue's hold becomes one per leg (R40, R64). -/
def Store.bind (st : Store) (id due holders : Nat) : Store :=
  { st with units := updateFirst (fun u => u.id == id) (fun u => { u with due := some due, holders := holders }) st.units }

/-- One hold on a unit is released. -/
def State.release (s : State) (id : Nat) : State := { s with store := s.store.release id }

/-- One hold on each of the units is released. -/
def State.releaseAll (s : State) (ids : List Nat) : State := ids.foldl State.release s

/-- The flow of a unit. -/
def State.unitFlow (s : State) (id : Nat) : Option FlowId := (s.store.find id).map (fun u => u.flow)

/-- The due time of a unit. -/
def State.unitDue (s : State) (id : Nat) : Option Nat := (s.store.find id).bind (fun u => u.due)

/-- Units that stand in either of two leg queues, each once (R2, R91). -/
def distinct (qa qb : List Nat) : List Nat := qa ++ qb.filter (fun x => !qa.contains x)

/-! ## Requests of the legs (R98) -/

/-- Serving is allowed on the leg (R98). -/
def EgressLeg.mayServe (x : EgressLeg) (freeze : Bool) : Bool := !freeze && x.service != .stalled

/-- The request opened or withdrawn so that an IDLE leg has it open exactly while serving is allowed (R98). -/
def EgressLeg.settle (x : EgressLeg) (freeze : Bool) : EgressLeg :=
  { x with request := x.hand.isNone && x.mayServe freeze }

/-- A leg changed and its request settled. -/
def State.modLegSettled (s : State) (l : Leg) (g : EgressLeg → EgressLeg) : State :=
  s.modLeg l (fun x => (g x).settle s.freeze)

/-- A leg's counters changed. -/
def EgressLeg.count (x : EgressLeg) (g : LegTotals → LegTotals) : EgressLeg :=
  { x with counters := g x.counters }

/-! ## Outcomes of a command -/

/-- No block acts while full reset is held (R168). -/
def whenActing (s t : State) : Host.Outcome State Fault Refusal := .next (if s.inReset then s else t)

/-- An event that occurs only where a condition holds, outside full reset (log 1). -/
def whenever (cond : Bool) (s t : State) : Host.Outcome State Fault Refusal :=
  .next (if !s.inReset && cond then t else s)

end Sys2Proof.Machine
end

