-- ==== Sys2Proof/Machine/SendList.lean ====
section
/-! DEFINITION. The send list of the Peer Line Controller (R114-R116, R119) and the notices the other
blocks put on it. -/

namespace Sys2Proof.Machine

/-- Place of a kind in the list: YIELD, then CLAIM, then LOAD (R114). -/
def Notice.rank (n : Notice) : Nat :=
  match n with
  | .yield _ _ => 0
  | .claim _ _ => 1
  | .load _ _ _ => 2

def Notice.isClaim (n : Notice) : Bool := n.rank == 1

def Notice.isLoad (n : Notice) : Bool := n.rank == 2

/-- A YIELD with this leg mask. -/
def Notice.isYieldOn (n : Notice) (mask : Nat) : Bool :=
  match n with
  | .yield m _ => m == mask
  | _ => false

/-- A new entry placed after the entries of its own and earlier kinds (R114, R115). -/
def insertEntry (n : Notice) : List SendEntry → List SendEntry
  | [] => [⟨n, false, false⟩]
  | e :: es => if n.rank < e.notice.rank then ⟨n, false, false⟩ :: e :: es else e :: insertEntry n es

/-- An amount merged into a YIELD (R115). -/
def Notice.merge (n : Notice) (amount : Nat) : Notice :=
  match n with
  | .yield m x => .yield m (min (x + amount) Config.amountMax)
  | n => n

/-- An entry on the wire that is merged into or replaced is marked changed (R115). -/
def SendEntry.change (e : SendEntry) (n : Notice) : SendEntry :=
  { e with notice := n, changed := e.changed || e.onWire }

/-- A YIELD added, or merged into the YIELD of the same leg mask (R115). -/
def addYield (mask amount : Nat) (es : List SendEntry) : List SendEntry :=
  if es.any (fun e => e.notice.isYieldOn mask) then
    updateFirst (fun e => e.notice.isYieldOn mask) (fun e => e.change (e.notice.merge amount)) es
  else insertEntry (.yield mask amount) es

/-- A CLAIM added (R115). -/
def addClaim (mask amount : Nat) (es : List SendEntry) : List SendEntry :=
  insertEntry (.claim mask amount) es

/-- A LOAD added, or put in place of the LOAD that stands there (R115). -/
def addLoad (loadA loadB count : Nat) (es : List SendEntry) : List SendEntry :=
  if es.any (fun e => e.notice.isLoad) then
    updateFirst (fun e => e.notice.isLoad) (fun e => e.change (.load loadA loadB count)) es
  else insertEntry (.load loadA loadB count) es

/-- What an entry that was changed while its notice was on the wire holds after the notice's
completion: a YIELD its amount less the amount sent, a LOAD its new content (R119, log 12). -/
def Notice.less (n sent : Notice) : Notice :=
  match n, sent with
  | .yield m x, .yield _ y => .yield m (x - y)
  | n, _ => n

/-- The list after the notice on the wire completed (R119). -/
def completeEntry (sent : Notice) : List SendEntry → List SendEntry
  | [] => []
  | e :: es =>
    if e.onWire then
      if e.changed then ⟨e.notice.less sent, false, false⟩ :: es else es
    else e :: completeEntry sent es

/-- The notice leaves the wire without completing: its entry stays pending with its whole content (R115, R118). -/
def Line.leaveWire (x : Line) : Line :=
  { x with sending := none, freePoint := .normal,
           sendList := x.sendList.map (fun e => if e.onWire then { e with onWire := false, changed := false } else e) }

/-- The CLAIM is on the wire (R149). -/
def Line.claimOnWire (x : Line) : Bool := x.sendList.any (fun e => e.notice.isClaim && e.onWire)

/-- The CLAIM leaves the list by withdrawal; on the wire its notice is cut, and is no longer the notice being sent (R116;
log 32 for a cut in its last mark bit). -/
def Line.withdrawClaim (x : Line) : Line :=
  let kept := x.sendList.filter (fun e => !e.notice.isClaim)
  if x.claimOnWire then { x with sendList := kept, sending := none, freePoint := .normal }
  else { x with sendList := kept }

/-- The list is emptied and the break dropped, on entry to ISOLATED or DUPLICATE (R116). -/
def Line.emptied (x : Line) : Line :=
  { x with sendList := [], sending := none, pendingBreak := false, driving := false,
           freePoint := .normal, bodyLoss := false }

/-! ## The notices of the other blocks -/

/-- The number of own flows in ARMED, RUNNING or DRAINING (R130). -/
def State.ownCount (s : State) : Nat := (s.flows.toList.filter Flow.holdsLoad).length

/-- The send list changed. -/
def State.modSendList (s : State) (g : List SendEntry → List SendEntry) : State :=
  { s with line := { s.line with sendList := g s.line.sendList } }

/-- A LOAD with the own entry's values is placed (R137). -/
def State.placeLoad (s : State) : State :=
  s.modSendList (addLoad s.adm.ownA s.adm.ownB s.ownCount)

/-- The station speaks on the wire: LISTEN_IN or ACTIVE. -/
def StationState.speaks (x : StationState) : Bool := x == .listenIn || x == .active

/-- A LOAD is placed in LISTEN_IN and ACTIVE (R136, R137). -/
def State.placeLoadIfSpeaking (s : State) : State :=
  if s.view.station.speaks then s.placeLoad else s

/-- A pending LOAD is brought up to date after a change of the own entry (R137). -/
def State.syncLoad (s : State) : State :=
  if s.line.sendList.any (fun e => e.notice.isLoad) then s.placeLoad else s

/-- A YIELD for a flow's legs and load, in LISTEN_IN and ACTIVE (R156). -/
def State.queueYield (s : State) (legs : Legs) (amount : Nat) : State :=
  if s.view.station.speaks then s.modSendList (addYield legs.code amount) else s

end Sys2Proof.Machine
end

