-- ==== Sys2Proof/Machine/Share.lean ====
section
/-! DEFINITION. The operations of the Admission Unit and the changes of station state that several
meanings share: capacity test, placement, admission and refusal, a flow's passage to FREE (R9, R33,
R141-R157). -/

namespace Sys2Proof.Machine

/-! ## The capacity test (R33) -/

def PeerEntry.load (e : PeerEntry) (l : Leg) : Nat :=
  match l with
  | .a => e.loadA
  | .b => e.loadB

def Admission.own (x : Admission) (l : Leg) : Nat :=
  match l with
  | .a => x.ownA
  | .b => x.ownB

def State.peer (s : State) (i : StationId) : PeerEntry := s.view.peers[i.val]

def State.setPeer (s : State) (i : StationId) (e : PeerEntry) : State :=
  { s with view := { s.view with peers := s.view.peers.set i.val e } }

/-- The sum of a leg's loads over all 16 entries: the own entry, and the entry of every other number (R33). -/
def State.legSum (s : State) (l : Leg) : Nat :=
  s.adm.own l +
    (allStations.map (fun i => if i = s.straps.stn then 0 else (s.peer i).load l)).sum

/-- The capacity test for an amount on a leg (R33). -/
def State.fits (s : State) (l : Leg) (amount : Nat) : Bool :=
  decide (s.legSum l + amount ≤ admissionLimit s.straps.cap)

/-- The capacity test of a flow's claim on each leg it uses (R33, R151). -/
def State.claimFits (s : State) (f : FlowId) : Bool :=
  (s.flow f).params.legs.list.all (fun l => s.fits l (s.flow f).derived.load)

/-! ## The own entry (R155) -/

/-- The own entry with a load added on each of the legs. -/
def Admission.gain (x : Admission) (legs : Legs) (amount : Nat) : Admission :=
  { x with ownA := if legs.uses .a then x.ownA + amount else x.ownA
           ownB := if legs.uses .b then x.ownB + amount else x.ownB }

/-- The own entry with a load taken off each of the legs. -/
def Admission.give (x : Admission) (legs : Legs) (amount : Nat) : Admission :=
  { x with ownA := if legs.uses .a then x.ownA - amount else x.ownA
           ownB := if legs.uses .b then x.ownB - amount else x.ownB }

/-! ## Outcomes of a declaration -/

/-- The per-leg counters of a leg the flow does not use read 0 (R171). -/
def Flow.shownCounters (x : Flow) : FlowCounters :=
  { x.counters with
    legA := if x.params.legs.uses .a then x.counters.legA else LegCounts.zero
    legB := if x.params.legs.uses .b then x.counters.legB else LegCounts.zero }

/-- FLOW_CLOSED with the class, the legs and the counters as they stand (R17). -/
def State.emitClosed (s : State) (f : FlowId) (reason : ClosedReason) : State :=
  s.emit (.flowClosed f reason (s.flow f).params.cls (s.flow f).params.legs (s.flow f).shownCounters)

/-- The flow FREE: no drain timer, UNLOCKED, no credit (R9, R71, R81). The declared parameters, the
derived values and the counters stay (R1, R2). -/
def Flow.freed (x : Flow) : Flow :=
  { x with state := .free, drain := none, lock := none, creditA := 0, creditB := 0 }

/-- A unit of the flow in a leg's hand is detached (R9, R10). -/
def State.detach (s : State) (f : FlowId) (l : Leg) : State :=
  match (s.leg l).hand with
  | some h =>
    if s.unitFlow h.unit = some f then
      s.modLeg l (fun x => { x with hand := some { h with detached := true } })
    else s
  | none => s

/-- The passage to FREE of a flow that holds resources (R9): FREE, units in hand detached, the load out of
the own entry with a YIELD where the station speaks (R155, R156), FLOW_CLOSED. -/
def State.flowToFree (s : State) (f : FlowId) (reason : ClosedReason) : State :=
  let legs := (s.flow f).params.legs
  let load := (s.flow f).derived.load
  let s1 := ((s.modFlow f Flow.freed).detach f .a).detach f .b
  let s2 := { s1 with adm := s1.adm.give legs load }
  ((s2.queueYield legs load).syncLoad).emitClosed f reason

/-- A flow withdrawn before admission: FREE with FLOW_CLOSED WITHDRAWN (R15). -/
def State.withdrawFlow (s : State) (f : FlowId) : State :=
  (s.modFlow f Flow.freed).emitClosed f .withdrawn

/-- A flow refused by the Admission Unit: FREE with FLOW_REFUSED (R7). -/
def State.refuseFlow (s : State) (code : RefusedCode) (f : FlowId) : State :=
  (s.modFlow f Flow.freed).emit (.flowRefused f code)

/-- A flow admitted: its load in the own entry, ARMED, FLOW_ADMITTED, a pending LOAD brought up to date
(R7, R137, R151, R155). -/
def State.admitFlow (s : State) (f : FlowId) : State :=
  let s1 := { s with adm := s.adm.gain (s.flow f).params.legs (s.flow f).derived.load }
  ((s1.modFlow f (fun x => { x with state := .armed })).syncLoad).emit (.flowAdmitted f)

/-! ## Placement and the end of a claim -/

/-- The oldest flow of the claim queue becomes CLAIMING, when the station is ACTIVE and no flow is
CLAIMING (R148). -/
def State.place (s : State) : State :=
  if s.view.station = .active then
    match s.adm.claiming, s.adm.claimQueue with
    | none, f :: rest =>
      let s1 := { s with adm := { s.adm with claimQueue := rest, claiming := some f,
                                             claimTimer := some (s.ownClock + Config.claimNs) } }
      (s1.modFlow f (fun x => { x with state := .claiming })).modSendList
        (addClaim (s.flow f).params.legs.code (s.flow f).derived.load)
    | _, _ => s
  else s

/-- No flow is CLAIMING and the claim timer is stopped. -/
def State.noClaim (s : State) : State :=
  { s with adm := { s.adm with claiming := none, claimTimer := none } }

/-- The CLAIM withdrawn from the send list (R116). -/
def State.withdrawClaim (s : State) : State := { s with line := s.line.withdrawClaim }

/-- The own CLAIM completed: the claim is tested and the flow decided, or ended where it carries the
cancel mark, and the next flow is placed (R151, R157). For a cancelled claim that stands, L is added and
at once subtracted, so that the own entry does not change. -/
def State.claimCompleted (s : State) : State :=
  match s.adm.claiming with
  | none => s
  | some f =>
    let x := s.flow f
    let stands := s.claimFits f
    if x.cancel then
      let s1 := if stands then s.noClaim.queueYield x.params.legs x.derived.load else s.noClaim
      (s1.withdrawFlow f).place
    else if stands then (s.noClaim.admitFlow f).place
    else (s.noClaim.refuseFlow .noShare f).place

/-- The own CLAIM left the wire without completing: a flow with the cancel mark ends (R149, R157). -/
def State.claimLeftWire (s : State) : State :=
  match s.adm.claiming with
  | none => s
  | some f => if (s.flow f).cancel then (s.withdrawClaim.noClaim.withdrawFlow f).place else s

/-- The claim timer ran out and the CLAIM is withdrawn (R152, R157). -/
def State.claimTimedOut (s : State) (f : FlowId) : State :=
  let s1 := s.withdrawClaim.noClaim
  if (s.flow f).cancel then (s1.withdrawFlow f).place
  else (s1.refuseFlow .claimTimeout f).place

/-- CLOSE or ABANDON for a flow in CLAIM_WAIT or CLAIMING without the cancel mark (R15, R157). -/
def State.withdrawUndecided (s : State) (f : FlowId) : State :=
  if (s.flow f).state = .claimWait then
    ({ s with adm := { s.adm with claimQueue := s.adm.claimQueue.filter (fun g => g != f) } }).withdrawFlow f
  else if s.line.claimOnWire then s.modFlow f (fun x => { x with cancel := true })
  else (s.withdrawClaim.noClaim.withdrawFlow f).place

/-- The newly accepted flow handed over to the Admission Unit (R147, R154). -/
def State.handOver (s : State) (f : FlowId) : State :=
  match s.view.station with
  | .solo => if s.claimFits f then s.admitFlow f else s.refuseFlow .noShare f
  | .active => ({ s with adm := { s.adm with claimQueue := s.adm.claimQueue ++ [f] } }).place
  | .listenIn => { s with adm := { s.adm with claimQueue := s.adm.claimQueue ++ [f] } }
  | .isolated => s.refuseFlow .lineIsolated f
  | .duplicate => s.refuseFlow .duplicateStation f

/-! ## Changes of station state -/

/-- The CLAIMING flow is refused, then the claim queue from its head (R153). A CLAIMING flow with the
cancel mark ends WITHDRAWN instead (R7, R15, log 18). -/
def State.refuseUndecided (s : State) (code : RefusedCode) : State :=
  let s1 :=
    match s.adm.claiming with
    | some f => if (s.flow f).cancel then s.withdrawFlow f else s.refuseFlow code f
    | none => s
  let s2 := s1.adm.claimQueue.foldl (fun t f => t.refuseFlow code f) s1
  { s2 with adm := { s2.adm with claimQueue := [], claiming := none, claimTimer := none } }

/-- The station state changed and the LISTEN_IN timer stopped (R139, R141, R142). -/
def State.setStation (s : State) (x : StationState) : State :=
  { s with view := { s.view with station := x, listen := none } }

/-- Entry to ISOLATED (R125, R141, R153). -/
def State.enterIsolated (s : State) : State :=
  let s1 := s.setStation .isolated
  let s2 := { s1 with line := { s1.line.emptied with receiver := .waitFree } }
  (s2.emit (.lineEvent s.straps.stn .isolated)).refuseUndecided .lineIsolated

/-- Entry to DUPLICATE (R126, R142, R153). -/
def State.enterDuplicate (s : State) : State :=
  let s1 := s.setStation .duplicate
  let s2 := { s1 with line := s1.line.emptied }
  (s2.emit (.peerEvent s.straps.stn .duplicate)).refuseUndecided .duplicateStation

/-- A duplicate detection, which acts in LISTEN_IN and ACTIVE (R126). -/
def State.detectDuplicate (s : State) : State :=
  if s.view.station.speaks then s.enterDuplicate else s

/-- The station becomes ACTIVE (R139, R153). -/
def State.enterActive (s : State) : State :=
  ((s.setStation .active).emit (.lineEvent s.straps.stn .active)).place

/-- The wire restored after 12 recessive bit times: LISTEN_IN with a break requested (R123, R125, R139, R141). -/
def State.enterRestored (s : State) : State :=
  let s1 := s.setStation .listenIn
  let s2 := { s1 with line := { s1.line with receiver := .hunt, freePoint := .normal, pendingBreak := true, bits := .idle } }
  s2.emit (.lineEvent s.straps.stn .restored)

end Sys2Proof.Machine
end

