-- ==== Sys2Proof/Machine/Binder.lean ====
section
/-! DEFINITION. The Binder's command BINDER_EXAMINATION, with lock, re-lock, lateness and binding
(spec/04), and the leg queues' side of binding and of discards (R89-R91). -/

namespace Sys2Proof.Machine

/-! ## Leg queues -/

/-- One LAG discard counted on a leg, in the flow and in the leg's total (R2, R90, R91, R107). -/
def State.countLag (s : State) (f : FlowId) (l : Leg) (d : Nat) : State :=
  (s.modFlow f (fun x => x.countOn l (fun c => { c with lag := raise c.lag d }))).modLeg l
    (fun x => x.count (fun c => { c with lagTotal := raise c.lagTotal d }))

/-- Every unit of the flow's queue on a leg discarded as LAG (R62, R91). -/
def State.lagQueue (s : State) (f : FlowId) (l : Leg) : State :=
  let q := (s.flow f).queue l
  ((s.modFlow f (fun x => x.setQueue l [])).countLag f l q.length).releaseAll q

/-- A unit appended to the flow's queue on a leg; at 8 units the oldest is first removed as a LAG
discard (R64, R90). -/
def State.appendUnit (s : State) (f : FlowId) (id : Nat) (l : Leg) : State :=
  match (s.flow f).queue l with
  | old :: rest =>
    if Config.legQueueMax ≤ (old :: rest).length then
      ((s.modFlow f (fun x => x.setQueue l (rest ++ [id]))).countLag f l 1).release old
    else s.modFlow f (fun x => x.setQueue l (old :: rest ++ [id]))
  | [] => s.modFlow f (fun x => x.setQueue l [id])

/-! ## The head unit -/

/-- The head leaves the intake queue. -/
def Flow.dropHead (x : Flow) : Flow := { x with intakeQ := x.intakeQ.tail }

/-- The head discarded at binding with a count, its hold released (R40, R57, R60, R63). -/
def State.discardHead (s : State) (f : FlowId) (id : Nat) (g : FlowCounters → FlowCounters) : State :=
  (s.modFlow f (fun x => x.dropHead.count g)).release id

/-- The position changed. -/
def Flow.moveTo (x : Flow) (p : Position) : Flow := { x with lock := some p }

/-- The position advanced after a binding or a late discard (R65). -/
def Flow.advance (x : Flow) : Flow :=
  match x.lock with
  | some p => x.moveTo (p.advance x.params x.derived)
  | none => x

/-- The head bound with the due time D of the position (R64). -/
def State.bindHead (s : State) (f : FlowId) (id due : Nat) : State :=
  let legs := (s.flow f).params.legs.list
  let s1 := { s with store := s.store.bind id due legs.length }.modFlow f Flow.dropHead
  (legs.foldl (fun t l => t.appendUnit f id l) s1).modFlow f Flow.advance

/-- One LATE on every leg the flow uses, in the flow and in the leg's total (R63, R107). -/
def State.countLate (s : State) (f : FlowId) (l : Leg) : State :=
  (s.modFlow f (fun x => x.countOn l (fun c => { c with late := bump c.late }))).modLeg l
    (fun x => x.count (fun c => { c with lateTotal := bump c.lateTotal }))

/-- The head discarded as late at binding (R63). -/
def State.lateHead (s : State) (f : FlowId) (id : Nat) : State :=
  let legs := (s.flow f).params.legs.list
  ((legs.foldl (fun t l => t.countLate f l) (s.modFlow f Flow.dropHead)).modFlow f Flow.advance).release id

/-- The lateness step and binding (R63, R64). -/
def State.placeHead (s : State) (f : FlowId) (id now : Nat) : State :=
  match (s.flow f).lock with
  | none => s
  | some p =>
    let due := p.due (s.flow f).params
    if (s.flow f).params.late now due then s.lateHead f id else s.bindHead f id due

/-! ## Lock and re-lock -/

/-- A lock (R56): position at the lock frame, credits 0, an ARMED flow RUNNING, FLOW_LOCK LOCKED. -/
def State.lockFlow (s : State) (f : FlowId) (now : Nat) : State :=
  let k := (s.flow f).params.lockFrame now
  (s.modFlow f (fun x =>
    { x.noCredit with
      lock := some (Position.atLock x.params k)
      state := if x.state = .armed then .running else x.state })).emit (.flowLock f .locked k)

/-- A re-lock (R61, R62): the frames passed over counted, position at the new lock frame, credits 0, the
flow's leg queues emptied as LAG, FLOW_LOCK RELOCKED. -/
def State.relockFlow (s : State) (f : FlowId) (now : Nat) (p : Position) : State :=
  let k := (s.flow f).params.lockFrame now
  let s1 := s.modFlow f (fun x =>
    { x.noCredit with
      lock := some (Position.atLock x.params k)
      counters := { x.counters with skipped := raise x.counters.skipped (k - p.k) } })
  ((s.flow f).params.legs.list.foldl (fun t l => t.lagQueue f l) s1).emit (.flowLock f .relocked k)

/-- The re-lock test of a frame start at (k,0) (R30, R61). -/
def Flow.frameTooLate (x : Flow) (p : Position) (now : Nat) : Bool :=
  exceeds now (p.frameStart x.params) x.derived.wf

/-- The re-lock test of an ESSENCE head at (k,j) (R30, R66). -/
def Flow.headTooLate (x : Flow) (p : Position) (now : Nat) : Bool :=
  exceeds now (p.due x.params) x.derived.wf

/-- The re-lock step of a frame start, then lateness and binding (R61-R64). -/
def State.frameHead (s : State) (f : FlowId) (id now : Nat) : State :=
  match (s.flow f).lock with
  | none => s
  | some p =>
    if (s.flow f).frameTooLate p now then (s.relockFlow f now p).placeHead f id now
    else s.placeHead f id now

/-- The frame ended early: SHORT_FRAME, and the position at (k+1, 0) (R59). -/
def State.shortFrame (s : State) (f : FlowId) (p : Position) : State :=
  s.modFlow f (fun x =>
    (x.count (fun c => { c with shortFrame := bump c.shortFrame })).moveTo (p.nextFrame x.params x.derived))

/-- The head of a LOCKED raster flow (R59-R64). -/
def State.rasterHead (s : State) (f : FlowId) (id : Nat) (frameStart : Bool) (now : Nat) : State :=
  match (s.flow f).lock with
  | none => s
  | some p =>
    if frameStart then
      if p.j ≠ 0 then (s.shortFrame f p).frameHead f id now else s.frameHead f id now
    else if p.j = 0 then s.discardHead f id (fun c => { c with longFrame := bump c.longFrame })
    else s.placeHead f id now

/-- The head of a LOCKED ESSENCE flow (R66). -/
def State.essenceHead (s : State) (f : FlowId) (id now : Nat) : State :=
  match (s.flow f).lock with
  | none => s
  | some p =>
    if (s.flow f).headTooLate p now then (s.relockFlow f now p).placeHead f id now
    else s.placeHead f id now

/-- The head of a LOCKED flow, by its class. -/
def State.lockedHead (s : State) (f : FlowId) (id : Nat) (frameStart : Bool) (now : Nat) : State :=
  if (s.flow f).params.cls = .essence then s.essenceHead f id now
  else s.rasterHead f id frameStart now

/-- The head of an UNLOCKED flow: a lock and its examination at the new position, or a LOCK discard
(R56-R58). -/
def State.unlockedHead (s : State) (f : FlowId) (id : Nat) (frameStart : Bool) (now : Nat) : State :=
  if (s.flow f).params.cls = .essence || frameStart then
    (s.lockFlow f now).lockedHead f id frameStart now
  else s.discardHead f id (fun c => { c with lockDiscard := bump c.lockDiscard })

/-- The examination of a head unit (R54, R69). -/
def State.examineHead (s : State) (f : FlowId) (id : Nat) (frameStart : Bool) (now : Nat) : State :=
  match (s.flow f).lock with
  | none => s.unlockedHead f id frameStart now
  | some _ => s.lockedHead f id frameStart now

/-- Conditions 1 and 3 of R54: the flow may be examined, and a leg it uses has an empty queue of it. -/
def Flow.bindable (x : Flow) : Bool :=
  x.holdsLoad && x.params.legs.list.any (fun l => (x.queue l).isEmpty)

/-- The FRAME_START flag of a unit (R41). -/
def State.unitFrameStart (s : State) (id : Nat) : Bool :=
  match s.store.find id with
  | some u => u.frameStart
  | none => false

/-- BINDER_EXAMINATION, where the four conditions of R54 hold. -/
def execBinderExamination (f : FlowId) (s : State) : Host.Outcome State Fault Refusal :=
  match (s.flow f).intakeQ, s.now? with
  | id :: _, some now => whenever (s.flow f).bindable s (s.examineHead f id (s.unitFrameStart id) now)
  | _, _ => .next s

end Sys2Proof.Machine
end

