-- ==== Sys2Proof/Machine/Flags.lean ====
section
/-! DEFINITION. The part's output lines as functions of the state: intake-ready, attention, the egress
offer lines, the request a leg has at the calendar (R39, R84, R101, R166-R168). -/

namespace Sys2Proof.Machine

/-- Intake-ready: given while the free pool holds 8 cells or more, withheld in reset (R39, R168). -/
def State.intakeReady (s : State) : Bool :=
  !s.inReset && decide (Config.readyCells ≤ s.store.freeCells)

/-- The attention line: asserted while the outcome queue holds a record, negated in reset (R167, R168). -/
def State.attention (s : State) : Bool := !s.inReset && !s.port.outcomes.isEmpty

/-- The outcome record on the outcome stream (R166). -/
def State.onOutcomeStream (s : State) : Option Record :=
  if !s.inReset && s.port.delivering then s.port.outcomes.head? else none

/-- A fitted leg has its request open at the calendar (R84, R98); while full reset is held no request is open
(R87, R168, log 29). -/
def State.requestOpen (s : State) (l : Leg) : Bool := !s.inReset && s.fitted l && (s.leg l).request

/-- What an open offer presents to the MAC (R101). -/
structure Offer where
  bytes     : List Byte
  flow      : FlowId
  continues : Bool
  deriving DecidableEq, Repr

/-- The transmitter is OFFERING (R88). -/
def EgressLeg.offering (x : EgressLeg) : Bool :=
  match x.hand with
  | some h => h.phase == .offering
  | none => false

/-- The leg's offer lines: the open offer, or idle, as they are in reset and where the leg is not fitted (R101, R108,
R168). -/
def State.offer (s : State) (l : Leg) : Option Offer :=
  if s.inReset || !s.fitted l then none
  else
    match (s.leg l).hand with
    | some h =>
      if h.phase = .offering then
        (s.store.find h.unit).bind (fun u =>
          (u.packets[h.index - 1]?).map (fun p => ⟨p, u.flow, decide (h.index < u.packets.length)⟩))
      else none
    | none => none

/-- What the station drives on the peer line (R113, R123, R168). -/
inductive Drive where
  | released
  | dominant
  | notice (n : Notice)
  deriving DecidableEq, Repr

def State.drive (s : State) : Drive :=
  if s.inReset then .released
  else if s.line.driving then .dominant
  else
    match s.line.sending with
    | some n => .notice n
    | none => .released

/-- A record of the intake stream is taken at its arrival, which needs intake-ready (R39, R159, log 8). -/
def onRecord (s t : State) : Host.Outcome State Fault Refusal := .next (if s.intakeReady then t else s)

end Sys2Proof.Machine
end

