-- ==== Sys2Proof/Machine/Calendar.lean ====
section
/-! DEFINITION. The Release Calendar's commands TIME_STEP_STROBE, TIME_READING and CALENDAR_NAMES_ENTRY
(spec/05), the last with the leg's side of taking a unit (R99-R101). -/

namespace Sys2Proof.Machine

/-! ## TIME_STEP_STROBE (R72) -/

/-- TIME_STEP_STROBE: the step latch is set (R72). -/
def execTimeStepStrobe (s : State) : Host.Outcome State Fault Refusal :=
  whenActing s { s with time := { s.time with latch := true } }

/-! ## Steps (R67, R76, R77) -/

/-- A flow at a step: credits 0; a LOCKED one UNLOCKED, its leg queues discarded as STEP, RUNNING to
ARMED (R67, R77). -/
def Flow.stepped (x : Flow) : Flow :=
  match x.lock with
  | none => x.noCredit
  | some _ =>
    { (x.noCredit).count (fun c => { c with step := raise c.step (distinct x.queueA x.queueB).length }) with
      lock := none
      queueA := []
      queueB := []
      state := if x.state = .running then .armed else x.state }

/-- The holds a step releases: the leg queues of a LOCKED flow. -/
def Flow.stepHolds (x : Flow) : List Nat :=
  match x.lock with
  | none => []
  | some _ => x.queueA ++ x.queueB

/-- One flow taken through a step. -/
def State.stepFlow (s : State) (f : FlowId) : State :=
  (s.modFlow f Flow.stepped).releaseAll (s.flow f).stepHolds

/-- A step at a valid reading of value x (R77). -/
def State.timeStep (s : State) (x : Nat) (code : TimeCode) : State :=
  let s1 := { s with time := { cursor := some (slotOf x), previous := some x, latch := false, valid := true } }
  (allFlows.foldl State.stepFlow s1).emit (.timeEvent code)

/-! ## Moving the cursor (R75, R80) -/

/-- A flow's credits after the cursor passed lo + 1 to hi: a LOCKED flow that is RUNNING or DRAINING
gains one for each of its credit slots on each leg it uses, up to Bmax (R75, R80). -/
def Flow.credited (x : Flow) (lo hi : Nat) : Flow :=
  match x.lock with
  | none => x
  | some p =>
    if x.state = .running ∨ x.state = .draining then
      let n := x.params.creditSlots p.lockFrame lo hi
      x.params.legs.list.foldl (fun y l => y.setCredit l (min x.params.bmax (y.credit l + n))) x
    else x

/-- The cursor moves from c to a later slot (R75). -/
def State.moveCursor (s : State) (c x : Nat) : State :=
  let s1 := allFlows.foldl (fun t f => t.modFlow f (fun y => y.credited c (slotOf x))) s
  { s1 with time := { s1.time with cursor := some (slotOf x), previous := some x } }

/-! ## TIME_READING (R72-R78) -/

/-- A valid reading in VALID with the step latch clear, by the rows of R74. -/
def State.judgeReading (s : State) (c p x : Nat) : State :=
  if x + Config.slotNs ≤ slotStart c then s.timeStep x .impliedStep
  else if x < slotStart c then { s with time := { s.time with previous := some x } }
  else if p + Config.forwardMaxNs < x then s.timeStep x .impliedStep
  else if slotOf x = c then { s with time := { s.time with previous := some x } }
  else s.moveCursor c x

/-- A valid reading (R73, R74, R76). -/
def State.validReading (s : State) (x : Nat) : State :=
  match s.time.cursor, s.time.previous with
  | some c, some p =>
    if !s.time.valid || s.time.latch then s.timeStep x .step else s.judgeReading c p x
  | _, _ =>
    { s with time := { cursor := some (slotOf x), previous := some x, latch := false, valid := true } }

/-- An invalid reading: in VALID the cursor stops and TIME_EVENT INVALID is queued (R78). -/
def State.invalidReading (s : State) : State :=
  if s.time.valid then { s with time := { s.time with valid := false } }.emit (.timeEvent .invalid) else s

/-- A slot-boundary signal reaches a leg: it is kept in RETRY_WAIT and does nothing otherwise (R72, R103). -/
def EgressLeg.signalled (x : EgressLeg) : EgressLeg :=
  match x.hand with
  | some h =>
    match h.phase with
    | .retryWait _ => { x with hand := some { h with phase := .retryWait true } }
    | .offering => x
  | none => x

/-- One period of the part's own clock with a slot-boundary signal to each leg (R72, log 4). -/
def State.clockTick (s : State) : State :=
  { s with ownClock := s.ownClock + Config.slotNs, legA := s.legA.signalled, legB := s.legB.signalled }

/-- TIME_READING (R72). -/
def execTimeReading (valid : Bool) (value : BitVec 64) (s : State) : Host.Outcome State Fault Refusal :=
  whenActing s (if valid then s.clockTick.validReading value.toNat else s.clockTick.invalidReading)

/-! ## CALENDAR_NAMES_ENTRY (R82-R84, R99-R101) -/

/-- A calendar entry of a leg, read off a flow whose queue on the leg is not empty: its flow, its oldest
unit, and the key D (R82). -/
structure Entry where
  flow : FlowId
  unit : Nat
  due  : Nat
  deriving DecidableEq, Repr

/-- The entry of a (flow, leg), if its leg queue holds a unit (R82). -/
def State.entry (s : State) (l : Leg) (f : FlowId) : Option Entry :=
  match (s.flow f).queue l with
  | id :: _ => (s.unitDue id).map (fun d => ⟨f, id, d⟩)
  | [] => none

/-- Conditions 2 and 3 of R83 with the cursor at c. -/
def State.eligible (s : State) (l : Leg) (c : Nat) (e : Entry) : Bool :=
  decide (slotOf e.due ≤ c) && decide (1 ≤ (s.flow e.flow).credit l)

/-- The order of R84: earliest key, then class rank, then flow number. -/
def State.before (s : State) (x y : Entry) : Bool :=
  let rx := (s.flow x.flow).params.cls.rank
  let ry := (s.flow y.flow).params.cls.rank
  decide (x.due < y.due) ||
    (x.due == y.due && (decide (rx < ry) || (rx == ry && decide (x.flow.val < y.flow.val))))

/-- The first of two entries by R84. -/
def State.earlier (s : State) (best : Option Entry) (y : Entry) : Option Entry :=
  match best with
  | none => some y
  | some x => if s.before y x then some y else some x

/-- The entry the calendar names to a leg, while the time state is VALID (R83, R84). -/
def State.named (s : State) (l : Leg) : Option Entry :=
  match s.time.valid, s.time.cursor with
  | true, some c => ((allFlows.filterMap (s.entry l)).filter (s.eligible l c)).foldl s.earlier none
  | _, _ => none

/-- The oldest unit leaves the leg queue. -/
def Flow.dropOldest (x : Flow) (l : Leg) : Flow := x.setQueue l (x.queue l).tail

/-- A named unit late at offer: LATE on the leg, its hold released, no credit taken (R99). -/
def State.lateAtOffer (s : State) (l : Leg) (e : Entry) : State :=
  (((s.modFlow e.flow (fun x => x.dropOldest l)).countLate e.flow l).release e.unit).modLegSettled l id

/-- The unit leaves the leg queue and takes one credit (R80, R99). -/
def Flow.takeOldest (x : Flow) (l : Leg) : Flow := (x.dropOldest l).setCredit l (x.credit l - 1)

/-- A unit taken in hand and its first packet offered (R99, R101). -/
def State.offerUnit (s : State) (l : Leg) (e : Entry) : State :=
  (s.modFlow e.flow (fun x => x.takeOldest l)).modLegSettled l
    (fun x => { x with hand := some ⟨e.unit, 1, 0, .offering, false⟩ })

/-- A unit sunk on a DOWN or OUT leg (R100). -/
def State.sinkUnit (s : State) (l : Leg) (e : Entry) : State :=
  ((s.modFlow e.flow (fun x =>
      (x.takeOldest l).countOn l (fun c => { c with sink := bump c.sink }))).release e.unit).modLegSettled l
    (fun x => x.count (fun c => { c with sinkTotal := bump c.sinkTotal }))

/-- The leg acts on the entry named to it (R99). -/
def State.serve (s : State) (l : Leg) (e : Entry) (now : Nat) : State :=
  if (s.flow e.flow).params.late now e.due then s.lateAtOffer l e
  else
    match (s.leg l).service with
    | .up => s.offerUnit l e
    | .down => s.sinkUnit l e
    | .out => s.sinkUnit l e
    | .stalled => s

/-- CALENDAR_NAMES_ENTRY: an open request of an IDLE leg is answered where an entry is eligible (R84, R99). -/
def execCalendarNamesEntry (l : Leg) (s : State) : Host.Outcome State Fault Refusal :=
  match s.named l, s.now? with
  | some e, some now =>
    whenever (s.requestOpen l && (s.leg l).hand.isNone) s (s.serve l e now)
  | _, _ => .next s

end Sys2Proof.Machine
end

