-- ==== Sys2Proof/Machine/Operands.lean ====
section
/-! DEFINITION. The operand forms of the directives: flow and leg fields, the class and legs codes, the
record a DECLARE body stands for, and the refusals of the generic checks (R160, R170). -/

namespace Sys2Proof.Machine

/-- A flow field: 0-63, or no flow (R160). -/
def flowOf (b : Byte) : Option FlowId :=
  if h : b.toNat < 64 then some ⟨b.toNat, h⟩ else none

/-- A LEG_CONTROL leg field: A, or B while it is fitted (R160). -/
def State.legOf (s : State) (b : Byte) : Option Leg :=
  if b = 1#8 then some .a
  else if b = 2#8 && s.straps.legb then some .b
  else none

/-- The class codes (spec/12). -/
def classOf (b : Byte) : Option FlowClass :=
  if b = 0#8 then some .essence
  else if b = 1#8 then some .rasterLinear
  else if b = 2#8 then some .rasterGapped
  else none

/-- The legs codes; B and DUAL only while leg B is fitted (R5). -/
def legsOf (b : Byte) (legb : Bool) : Option Legs :=
  if b = 1#8 then some .a
  else if b = 2#8 && legb then some .b
  else if b = 3#8 && legb then some .dual
  else none

/-- Directive codes (spec/12). -/
def codeDeclare : Byte := 1#8
def codeClose : Byte := 2#8
def codeAbandon : Byte := 3#8
def codeQueryFlow : Byte := 4#8
def codeQueryPeers : Byte := 5#8
def codeQueryStation : Byte := 6#8
def codeLegControl : Byte := 7#8

/-- The subject of a record that names none (R171). -/
def noSubject : Byte := 255#8

/-- A directive answered with DIRECTIVE_REFUSED (R160). -/
def State.refuse (s : State) (code : DirectiveCode) (subject directive : Byte) : State :=
  s.emit (.directiveRefused code subject directive)

/-- A directive that names a flow, after check 2 of R160. -/
def State.withFlow (s : State) (flow directive : Byte) (act : FlowId → State) : State :=
  match flowOf flow with
  | some f => act f
  | none => s.refuse .badFlow flow directive

/-- A LEG_CONTROL, after check 3 of R160. The subject of a BAD_LEG is the leg field as received, also where it
holds no leg code, which the spec leaves open (log 31, DESIGN CHOICE). -/
def State.withLeg (s : State) (leg : Byte) (act : Leg → State) : State :=
  match s.legOf leg with
  | some l => act l
  | none => s.refuse .badLeg leg codeLegControl

/-! ## The fields of a DECLARE (R5) -/

/-- The declared parameters of a body whose class and legs are known. -/
def declaredParams (d : Declaration) (c : FlowClass) (l : Legs) : Params :=
  { cls := c, legs := l, pn := d.pn.toNat, pd := d.pd.toNat, n := d.n.toNat, a := d.a.toNat,
    t := d.t.toNat, o := d.o.toNat, bmax := d.bmax.toNat, w := d.w.toNat, smax := d.smax.toNat,
    u := d.u.toNat, qmax := d.qmax.toNat }

/-- x lies in lo to hi. -/
def within (x lo hi : Nat) : Bool := decide (lo ≤ x) && decide (x ≤ hi)

/-- Checks 3 to 13 of R5 in their order: the code of the first that fails. Check 8 accepts every W. -/
def Params.firstFailure (p : Params) (limit : Nat) : Option DirectiveCode :=
  if !(within p.pn 1 (2 ^ 40 - 1) && within p.pd 1 1048575 && within p.pint 1000000 1000000000) then
    some .badPeriod
  else if !within p.n 1 65535 then some .badCount
  else if !(within p.a 1 4095 && within p.t 1 4095 && decide (p.a ≤ p.t)
            && (p.cls == .rasterGapped || p.a == p.t)) then some .badRatio
  else if !decide (p.o < p.pint) then some .badOffset
  else if !within p.bmax 1 16 then some .badBurst
  else if !within p.smax 64 2048 then some .badSize
  else if !within p.u 1 4 then some .badUnit
  else if !within p.qmax 1 1024 then some .badQueue
  else if !decide (64 * p.sd ≤ p.sn) then some .badRate
  else if !decide (p.load ≤ limit) then some .loadTooLarge
  else none

/-- The validation of a DECLARE (R5): the first failing check's code, or the declared parameters. -/
def validate (straps : Straps) (d : Declaration) : DirectiveCode ⊕ Params :=
  match classOf d.cls with
  | none => .inl .badClass
  | some c =>
    match legsOf d.legs straps.legb with
    | none => .inl .badLegs
    | some l =>
      match (declaredParams d c l).firstFailure (admissionLimit straps.cap) with
      | some code => .inl code
      | none => .inr (declaredParams d c l)

end Sys2Proof.Machine
end

