-- ==== Sys2Proof/Machine/CardPort.lean ====
section
/-! DEFINITION. The Card Port's commands: reset, QUERY_STATION, refused directives, outcome delivery
(spec/10). -/

namespace Sys2Proof.Machine

/-! ## Reset (R168, R169) -/

/-- RESET_ASSERT: the part is held in reset; what it shows meanwhile is read off `inReset` (R168, log 7). -/
def execResetAssert (s : State) : Host.Outcome State Fault Refusal := .next { s with inReset := true }

/-- RESET_END: the straps are latched and every block takes its after-reset state (R168, log 6). -/
def execResetEnd (straps : Straps) (permitA permitB freeze : Bool) (s : State) :
    Host.Outcome State Fault Refusal :=
  .next (State.afterReset straps permitA permitB freeze s.pending)

/-! ## Directives of the port (R160, R163) -/

/-- A leg as the STATION_REPORT shows it (R108, R163). -/
def State.legReport (s : State) (l : Leg) : Option LegReport :=
  if s.fitted l then
    some { service := (s.leg l).service, phase := (s.leg l).hand.map (fun h => h.phase),
           counters := (s.leg l).counters }
  else none

/-- The station report (R163). -/
def State.stationReport (s : State) : StationReport :=
  { station := s.view.station, straps := s.straps, timeValid := s.time.valid,
    freeCells := s.store.freeCells, legA := s.legReport .a, legB := s.legReport .b,
    line := s.line.counters, stray := s.store.stray, badLength := s.store.badLength }

/-- QUERY_STATION (R163). -/
def execQueryStation (s : State) : Host.Outcome State Fault Refusal :=
  onRecord s (s.emit (.stationReport s.straps.stn s.stationReport))

/-- A directive refused by check 1: subject 255, and byte 0 of the body, 0 for an empty one (R160, R171). -/
def execUnknownDirective (body : List Byte) (s : State) : Host.Outcome State Fault Refusal :=
  onRecord s (s.refuse .unknownDirective noSubject (body.headD 0#8))

/-! ## Outcome delivery (R166) -/

/-- OUTCOME_DELIVERY_START: the head's delivery begins, with outcome-ready present (R166). -/
def execOutcomeDeliveryStart (s : State) : Host.Outcome State Fault Refusal :=
  whenever (!s.port.delivering && !s.port.outcomes.isEmpty) s
    { s with port := { s.port with delivering := true } }

/-- The head leaves the queue; the next delivery begins where outcome-ready is present and a record
waits (R166). -/
def Port.delivered (p : Port) (ready : Bool) : Port :=
  { p with outcomes := p.outcomes.tail, delivering := ready && !p.outcomes.tail.isEmpty }

/-- OUTCOME_DELIVERY_END (R166). -/
def execOutcomeDeliveryEnd (ready : Bool) (s : State) : Host.Outcome State Fault Refusal :=
  whenever s.port.delivering s { s with port := s.port.delivered ready }

end Sys2Proof.Machine
end

