-- ==== Sys2Proof/Machine/FlowTable.lean ====
section
/-! DEFINITION. The Flow Table's commands: DECLARE, CLOSE, ABANDON, QUERY_FLOW, DRAIN_COMPLETE and
DRAIN_LIMIT (spec/01). -/

namespace Sys2Proof.Machine

/-! ## DECLARE (R4-R6) -/

/-- The record of an accepted DECLARE (R6). -/
def Flow.declared (x : Flow) (p : Params) : Flow :=
  { x with state := .claimWait, params := p, derived := p.derive, cancel := false,
           counters := FlowCounters.zero }

/-- A DECLARE for a known flow number. -/
def declareFlow (d : Declaration) (f : FlowId) (s : State) : State :=
  if (s.flow f).state ≠ .free then s.refuse .flowBusy d.flow codeDeclare
  else
    match validate s.straps d with
    | .inl code => s.refuse code d.flow codeDeclare
    | .inr p => (s.modFlow f (fun x => x.declared p)).handOver f

/-- DECLARE (R4-R6, R147, R160). -/
def execDeclare (d : Declaration) (s : State) : Host.Outcome State Fault Refusal :=
  onRecord s (s.withFlow d.flow codeDeclare (fun f => declareFlow d f s))

/-! ## Discarding a flow's units (R13, R14) -/

/-- The unit numbers of the assembly slot. -/
def Slot.units (x : Slot) : List Nat :=
  match x with
  | .opened u => [u]
  | _ => []

/-- How many units the flow's slot, intake queue and leg queues hold, a unit in both leg queues once. -/
def Flow.heldUnits (x : Flow) : Nat :=
  x.slot.units.length + x.intakeQ.length + (distinct x.queueA x.queueB).length

/-- Every hold of the flow's slot and queues, one number for each hold. -/
def Flow.holds (x : Flow) : List Nat := x.slot.units ++ x.intakeQ ++ x.queueA ++ x.queueB

/-- Every unit of the slot and the queues discarded as CLOSE_FLUSH (R13, R14). -/
def State.flushFlow (s : State) (f : FlowId) : State :=
  let x := s.flow f
  (s.modFlow f (fun y =>
    { y.count (fun c => { c with closeFlush := raise c.closeFlush x.heldUnits }) with
      slot := .empty, intakeQ := [], queueA := [], queueB := [] })).releaseAll x.holds

/-! ## CLOSE (R11, R15) -/

/-- A flow in ARMED or RUNNING starts to drain: an open run is discarded as CLOSE_FLUSH, a REFUSED slot
ends without count, the drain timer starts (R11, R50). -/
def State.startDrain (s : State) (f : FlowId) : State :=
  let runs := (s.flow f).slot.units
  (s.modFlow f (fun x =>
    { x.count (fun c => { c with closeFlush := raise c.closeFlush runs.length }) with
      state := .draining, slot := .empty, drain := some (s.ownClock + Config.drainNs) })).releaseAll runs

/-- The drain test of R12: a drained flow goes to FREE. -/
def State.drainTest (s : State) (f : FlowId) : State :=
  if (s.flow f).drained then s.flowToFree f .drained else s

def closeFlow (flow : Byte) (f : FlowId) (s : State) : State :=
  match (s.flow f).state with
  | .free => s.refuse .notDeclared flow codeClose
  | .draining => s.refuse .closing flow codeClose
  | .claimWait => s.withdrawUndecided f
  | .claiming => if (s.flow f).cancel then s.refuse .closing flow codeClose else s.withdrawUndecided f
  | .armed => (s.startDrain f).drainTest f
  | .running => (s.startDrain f).drainTest f

/-- CLOSE (R11, R15, R160). -/
def execClose (flow : Byte) (s : State) : Host.Outcome State Fault Refusal :=
  onRecord s (s.withFlow flow codeClose (fun f => closeFlow flow f s))

/-! ## ABANDON (R14, R15) -/

def abandonFlow (flow : Byte) (f : FlowId) (s : State) : State :=
  match (s.flow f).state with
  | .free => s.refuse .notDeclared flow codeAbandon
  | .claimWait => s.withdrawUndecided f
  | .claiming => if (s.flow f).cancel then s.refuse .closing flow codeAbandon else s.withdrawUndecided f
  | .armed => (s.flushFlow f).flowToFree f .abandoned
  | .running => (s.flushFlow f).flowToFree f .abandoned
  | .draining => (s.flushFlow f).flowToFree f .abandoned

/-- ABANDON (R14, R15, R160). -/
def execAbandon (flow : Byte) (s : State) : Host.Outcome State Fault Refusal :=
  onRecord s (s.withFlow flow codeAbandon (fun f => abandonFlow flow f s))

/-! ## QUERY_FLOW (R16) -/

/-- The report of a flow as it stands (R16, R171). -/
def State.flowReport (s : State) (f : FlowId) : FlowReport :=
  let x := s.flow f
  let on (l : Leg) (n : Nat) : Nat := if x.params.legs.uses l then n else 0
  { state := x.state
    cancel := x.state == .claiming && x.cancel
    cls := x.params.cls
    legs := x.params.legs
    load := x.derived.load
    locked := x.lock.isSome
    k := match x.lock with
      | some p => p.k
      | none => 0
    j := match x.lock with
      | some p => p.j
      | none => 0
    creditA := on .a x.creditA
    creditB := on .b x.creditB
    intake := x.intakeQ.length
    openRun := !x.slot.units.isEmpty
    queueA := on .a x.queueA.length
    queueB := on .b x.queueB.length
    drainMs := if x.state = .draining then divUp (s.remaining x.drain) 1000000 else 0
    counters := x.shownCounters }

/-- QUERY_FLOW (R16, R160). -/
def execQueryFlow (flow : Byte) (s : State) : Host.Outcome State Fault Refusal :=
  onRecord s (s.withFlow flow codeQueryFlow (fun f => s.emit (.flowReport f (s.flowReport f))))

/-! ## The ends of a drain (R12, R13) -/

/-- DRAIN_COMPLETE: a DRAINING flow that has drained goes to FREE (R12). -/
def execDrainComplete (f : FlowId) (s : State) : Host.Outcome State Fault Refusal :=
  whenever ((s.flow f).state == .draining && (s.flow f).drained) s (s.flowToFree f .drained)

/-- The drain timer ran out: flush and FREE (R13). -/
def State.drainRanOut (s : State) (f : FlowId) (deadline : Nat) : State :=
  ((s.reach deadline).flushFlow f).flowToFree f .drainLimit

/-- DRAIN_LIMIT (R13). -/
def execDrainLimit (f : FlowId) (s : State) : Host.Outcome State Fault Refusal :=
  match (s.flow f).drain with
  | some d => whenever ((s.flow f).state == .draining) s (s.drainRanOut f d)
  | none => .next s

end Sys2Proof.Machine
end

