-- ==== Sys2Proof/Machine/Intake.lean ====
section
/-! DEFINITION. The Intake Unit's command PACKET_ARRIVAL (spec/03). -/

namespace Sys2Proof.Machine

/-- A packet as the Intake Unit judges it: its flags and bytes (R36, R41). -/
structure Packet where
  frameStart : Bool
  runOpen    : Bool
  runClose   : Bool
  bytes      : List Byte
  deriving DecidableEq, Repr

/-- The flow's intake count: complete units, and one for an OPEN slot (R42). -/
def Flow.intakeCount (x : Flow) : Nat :=
  x.intakeQ.length +
    (match x.slot with
     | .opened _ => 1
     | _ => 0)

/-- The Qmax cap allows a new unit to start (R42). -/
def Flow.capAllows (x : Flow) : Bool := decide (x.intakeCount + 1 ≤ x.params.qmax)

/-- One INTAKE_OVER (R42). -/
def Flow.overIntake (x : Flow) : Flow :=
  x.count (fun c => { c with intakeOver := bump c.intakeOver })

/-- The run in the slot ended before its close: an OPEN run is discarded and counts RUN_MALFORMED, a
REFUSED run ends without count (R46, R47, R49). -/
def State.breakRun (s : State) (f : FlowId) : State :=
  match (s.flow f).slot with
  | .opened u =>
    (s.modFlow f (fun x =>
      { x.count (fun c => { c with runMalformed := bump c.runMalformed }) with slot := .empty })).release u
  | .refused _ => s.modFlow f (fun x => { x with slot := .empty })
  | .empty => s

/-- The packet takes its cells and starts the unit with the store's next number; the flow changes by g. -/
def State.startUnit (s : State) (f : FlowId) (p : Packet) (g : Flow → Nat → Flow) : State :=
  let id := s.store.nextId
  { s with store := s.store.start f p.frameStart p.bytes }.modFlow f (fun x => g x id)

/-- A packet without RUN_OPEN at an EMPTY slot: a single-packet unit, or INTAKE_OVER (R43). -/
def State.singleUnit (s : State) (f : FlowId) (p : Packet) : State :=
  if (s.flow f).capAllows then
    s.startUnit f p (fun x id => { x with intakeQ := x.intakeQ ++ [id] })
  else s.modFlow f Flow.overIntake

/-- A packet with RUN_OPEN at an EMPTY slot (R44); `closes` is its RUN_CLOSE. -/
def State.openRun (s : State) (f : FlowId) (p : Packet) (closes : Bool) : State :=
  if (s.flow f).capAllows then
    s.startUnit f p (fun x id =>
      if closes then { x with intakeQ := x.intakeQ ++ [id] } else { x with slot := .opened id })
  else
    s.modFlow f (fun x => { x.overIntake with slot := if closes then .empty else .refused 1 })

/-- The number of packets a unit holds. -/
def State.packetCount (s : State) (id : Nat) : Nat :=
  match s.store.find id with
  | some u => u.packets.length
  | none => 0

/-- A packet without RUN_OPEN while a run is open (R45, R46). -/
def State.joinRun (s : State) (f : FlowId) (p : Packet) (closes : Bool) (id : Nat) : State :=
  if s.packetCount id < (s.flow f).params.u then
    let s1 := { s with store := s.store.join id p.bytes }
    if closes then s1.modFlow f (fun x => { x with slot := .empty, intakeQ := x.intakeQ ++ [id] }) else s1
  else s.breakRun f

/-- A packet without RUN_OPEN while the slot is REFUSED: it belongs to the refused run, which ends at
RUN_CLOSE or at its (U + 1)th packet (R48). -/
def State.refusedPacket (s : State) (f : FlowId) (closes : Bool) (count : Nat) : State :=
  s.modFlow f (fun x =>
    { x.overIntake with
      slot := if closes || decide (x.params.u < count + 1) then .empty else .refused (count + 1) })

/-- A packet accepted by R36 (R41): RUN_OPEN acts first, then RUN_CLOSE; both are ignored where U is 1. -/
def State.acceptPacket (s : State) (f : FlowId) (p : Packet) : State :=
  let runs := (s.flow f).params.u != 1
  let closes := runs && p.runClose
  if runs && p.runOpen then (s.breakRun f).openRun f p closes
  else
    match (s.flow f).slot with
    | .empty => s.singleUnit f p
    | .opened id => s.joinRun f p closes id
    | .refused n => s.refusedPacket f closes n

/-- A packet longer than the flow's Smax: one OVERSIZE, and the run in the slot ends (R36, R49). -/
def State.oversizePacket (s : State) (f : FlowId) : State :=
  (s.breakRun f).modFlow f (fun x => x.count (fun c => { c with oversize := bump c.oversize }))

/-- One STRAY (R36, R37). -/
def State.strayPacket (s : State) : State :=
  { s with store := { s.store with stray := bump s.store.stray } }

/-- One BAD_LENGTH (R36, R37). -/
def State.badLengthPacket (s : State) : State :=
  { s with store := { s.store with badLength := bump s.store.badLength } }

/-- The tests of R36 in their order. -/
def State.judgePacket (s : State) (flow : Byte) (p : Packet) : State :=
  if !within p.bytes.length Config.minPacket Config.maxPacket then s.badLengthPacket
  else
    match flowOf flow with
    | none => s.strayPacket
    | some f =>
      if !(s.flow f).accepts then s.strayPacket
      else if (s.flow f).params.smax < p.bytes.length then s.oversizePacket f
      else s.acceptPacket f p

/-- PACKET_ARRIVAL (R35, R36). -/
def execPacketArrival (flow : Byte) (frameStart runOpen runClose : Bool) (bytes : List Byte) (s : State) :
    Host.Outcome State Fault Refusal :=
  onRecord s (s.judgePacket flow ⟨frameStart, runOpen, runClose, bytes⟩)

end Sys2Proof.Machine
end

