-- ==== Sys2Proof/Machine/Legs.lean ====
section
/-! DEFINITION. The commands of the egress legs: answers, re-offers, permits, the stall timer, freeze and
LEG_CONTROL (spec/06). -/

namespace Sys2Proof.Machine

/-! ## Answers (R102-R105) -/

/-- One STRAY_ANSWER (R105). -/
def State.strayAnswer (s : State) (l : Leg) : State :=
  s.modLeg l (fun x => x.count (fun c => { c with strayAnswer := bump c.strayAnswer }))

/-- The flow's counters on a leg raised for a unit in hand, unless it is detached (R2, R10). -/
def State.countFor (s : State) (h : Hand) (u : Bundle) (l : Leg) (g : LegCounts → LegCounts) : State :=
  if h.detached then s else s.modFlow u.flow (fun x => x.countOn l g)

/-- The hand as it stands, put back with changes. -/
def EgressLeg.withHand (x : EgressLeg) (h : Hand) : EgressLeg := { x with hand := some h }

/-- The unit in hand is finished: the leg's hold is released, the transmitter IDLE, the request opened
where serving is allowed (R102, R104). -/
def State.finishUnit (s : State) (l : Leg) (id : Nat) : State :=
  (s.release id).modLegSettled l (fun x => { x with hand := none })

/-- TAKE for the unit in hand (R102). -/
def State.takePacket (s : State) (l : Leg) (h : Hand) (u : Bundle) : State :=
  let s1 := s.modLeg l (fun x => x.count (fun c => { c with packetsTaken := bump c.packetsTaken }))
  if h.index < u.packets.length then
    s1.modLeg l (fun x => x.withHand { h with index := h.index + 1, retries := 0 })
  else
    (((s1.countFor h u l (fun c => { c with sent := bump c.sent })).modLeg l
      (fun x => x.count (fun c => { c with unitsSent := bump c.unitsSent })))).finishUnit l h.unit

/-- The unit in hand ends without being sent (R104). -/
def State.endUnit (s : State) (l : Leg) (h : Hand) (u : Bundle) : State :=
  (((s.countFor h u l (fun c => { c with fault := bump c.fault })).modLeg l
    (fun x => x.count (fun c => { c with faults := bump c.faults })))).finishUnit l h.unit

/-- RETRY for the unit in hand (R103). -/
def State.retryPacket (s : State) (l : Leg) (h : Hand) (u : Bundle) : State :=
  let s1 := (s.countFor h u l (fun c => { c with retries := bump c.retries })).modLeg l
    (fun x => x.count (fun c => { c with retries := bump c.retries }))
  if h.retries < Config.retryMax then
    s1.modLeg l (fun x => x.withHand { h with retries := h.retries + 1, phase := .retryWait false })
  else s1.endUnit l h u

/-- An answer of a leg's MAC: it acts on the open offer, and is stray where there is none (R101, R105). -/
def State.answer (s : State) (l : Leg) (act : Hand → Bundle → State) : State :=
  match (s.leg l).hand with
  | none => s.strayAnswer l
  | some h =>
    match h.phase with
    | .retryWait _ => s.strayAnswer l
    | .offering =>
      match s.store.find h.unit with
      | some u => act h u
      | none => s

/-- TAKE (R102, R105). -/
def execTake (l : Leg) (s : State) : Host.Outcome State Fault Refusal :=
  whenever (s.fitted l) s (s.answer l (s.takePacket l))

/-- RETRY (R103, R105). -/
def execRetry (l : Leg) (s : State) : Host.Outcome State Fault Refusal :=
  whenever (s.fitted l) s (s.answer l (s.retryPacket l))

/-- FAULT (R104, R105). -/
def execFault (l : Leg) (s : State) : Host.Outcome State Fault Refusal :=
  whenever (s.fitted l) s (s.answer l (s.endUnit l))

/-- RETRY_REOFFER: in RETRY_WAIT, with a slot-boundary signal received, the same packet is offered
again (R103). -/
def execRetryReoffer (l : Leg) (s : State) : Host.Outcome State Fault Refusal :=
  match (s.leg l).hand with
  | some h =>
    whenever (s.fitted l && h.phase == .retryWait true) s
      (s.modLeg l (fun x => x.withHand { h with phase := .offering }))
  | none => .next s

/-! ## Service states (R92, R93) -/

/-- The permit falls (R92). -/
def State.permitFalls (s : State) (l : Leg) : State :=
  match (s.leg l).service with
  | .up =>
    (s.modLegSettled l (fun x =>
      { x with service := .stalled, permit := false, stall := some (s.ownClock + Config.stallNs) })).emit
        (.legEvent l .stalled)
  | _ => s.modLeg l (fun x => { x with permit := false })

/-- PERMIT_FALL of a line that stood on (R92, R108). -/
def execPermitFall (l : Leg) (s : State) : Host.Outcome State Fault Refusal :=
  whenever (s.fitted l && (s.leg l).permit) s (s.permitFalls l)

/-- The permit rises (R92). -/
def State.permitRises (s : State) (l : Leg) : State :=
  match (s.leg l).service with
  | .stalled =>
    (s.modLegSettled l (fun x => { x with service := .up, permit := true, stall := none })).emit
      (.legEvent l .up)
  | .down =>
    (s.modLegSettled l (fun x => { x with service := .up, permit := true, stall := none })).emit
      (.legEvent l .up)
  | _ => s.modLeg l (fun x => { x with permit := true })

/-- PERMIT_RISE of a line that stood off (R92, R108). -/
def execPermitRise (l : Leg) (s : State) : Host.Outcome State Fault Refusal :=
  whenever (s.fitted l && !(s.leg l).permit) s (s.permitRises l)

/-- The stall timer ran out (R92). -/
def State.stallRanOut (s : State) (l : Leg) (deadline : Nat) : State :=
  ((s.reach deadline).modLegSettled l (fun x => { x with service := .down, stall := none })).emit
    (.legEvent l .down)

/-- STALL_TIMEOUT of a running stall timer (R92, R93). -/
def execStallTimeout (l : Leg) (s : State) : Host.Outcome State Fault Refusal :=
  match (s.leg l).stall with
  | some d => whenever (s.fitted l && (s.leg l).service == .stalled) s (s.stallRanOut l d)
  | none => .next s

/-! ## Freeze (R97) -/

/-- The freeze line at a new level, and the requests of the fitted legs with it (R97, R98). -/
def State.setFreeze (s : State) (level : Bool) : State :=
  { s with freeze := level
           legA := s.legA.settle level
           legB := if s.straps.legb then s.legB.settle level else s.legB }

/-- FREEZE_RISE (R97). -/
def execFreezeRise (s : State) : Host.Outcome State Fault Refusal := whenActing s (s.setFreeze true)

/-- FREEZE_FALL (R97). -/
def execFreezeFall (s : State) : Host.Outcome State Fault Refusal := whenActing s (s.setFreeze false)

/-! ## LEG_CONTROL (R94, R95) -/

/-- LEG_CONTROL OUT for a fitted leg (R94). -/
def State.legOut (s : State) (l : Leg) : State :=
  (if (s.leg l).service = .out then s
   else s.modLegSettled l (fun x => { x with service := .out, stall := none })).emit (.legEvent l .out)

/-- LEG_CONTROL IN for a fitted leg (R95). -/
def State.legIn (s : State) (l : Leg) : State :=
  (if (s.leg l).service = .out then
    s.modLegSettled l (fun x =>
      if x.permit then { x with service := .up, stall := none }
      else { x with service := .stalled, stall := some (s.ownClock + Config.stallNs) })
   else s).emit (.legEvent l .into)

/-- LEG_CONTROL OUT (R94, R160). -/
def execLegControlOut (leg : Byte) (s : State) : Host.Outcome State Fault Refusal :=
  onRecord s (s.withLeg leg s.legOut)

/-- LEG_CONTROL IN (R95, R160). -/
def execLegControlIn (leg : Byte) (s : State) : Host.Outcome State Fault Refusal :=
  onRecord s (s.withLeg leg s.legIn)

end Sys2Proof.Machine
end

