-- ==== Sys2Proof/Machine/Formats.lean ====
section
/-! DEFINITION. Formats and Straps (spec/12): the intake records, the outcome records and the characters
of peer notices, as bytes and bits. -/

namespace Sys2Proof.Machine

/-- The low `width` bytes of a number, most significant first. -/
def bigEndian : Nat → Nat → List Byte
  | 0, _ => []
  | width + 1, x => bigEndian width (x / 256) ++ [BitVec.ofNat 8 x]

/-- The number a list of bytes spells, most significant first. -/
def fromBytes (bs : List Byte) : Nat := bs.foldl (fun acc b => acc * 256 + b.toNat) 0

/-- A Boolean field of one byte. -/
def flagByte (x : Bool) : Byte := if x then 1#8 else 0#8

/-! ## Peer notice characters (R113) -/

def StationId.header (stn : StationId) (kind : Nat) : Byte := BitVec.ofNat 8 (kind * 16 + stn.val)

/-- The kind codes (R113). -/
def Notice.kind (n : Notice) : Nat :=
  match n with
  | .yield _ _ => 2
  | .claim _ _ => 5
  | .load _ _ _ => 9

/-- The check character: all characters add up to 0 modulo 256 (R113). -/
def checkOf (bs : List Byte) : Byte := 0#8 - bs.sum

/-- The characters after the header and before the check. -/
def Notice.content (n : Notice) : List Byte :=
  match n with
  | .yield mask amount => BitVec.ofNat 8 mask :: bigEndian 3 amount
  | .claim mask amount => BitVec.ofNat 8 mask :: bigEndian 3 amount
  | .load a b count => bigEndian 3 a ++ bigEndian 3 b ++ [BitVec.ofNat 8 count]

/-- The characters of a notice from a station (R113). -/
def Notice.chars (n : Notice) (stn : StationId) : List Byte :=
  let body := StationId.header stn n.kind :: n.content
  body ++ [checkOf body]

/-- The length of the notice a header begins, by the code in its high four bits (R113, R121). -/
def noticeLength (header : Byte) : Option Nat :=
  match header.toNat / 16 with
  | 2 => some 6
  | 5 => some 6
  | 9 => some 9
  | _ => none

/-- The content of a notice of full length, as received (R113, R122). -/
def readNotice (cs : List Byte) : Option Notice :=
  match cs with
  | [h, m, x, y, z, _] =>
    match h.toNat / 16 with
    | 2 => some (.yield m.toNat (fromBytes [x, y, z]))
    | 5 => some (.claim m.toNat (fromBytes [x, y, z]))
    | _ => none
  | [h, a, b, c, d, e, f, n, _] =>
    match h.toNat / 16 with
    | 9 => some (.load (fromBytes [a, b, c]) (fromBytes [d, e, f]) n.toNat)
    | _ => none
  | _ => none

/-- The sender's number in a header (R113). -/
def senderOf (header : Byte) : StationId := ⟨header.toNat % 16, Nat.mod_lt _ (by decide)⟩

/-- A character's bits in the order they travel, true for recessive: start bit, eight data bits most
significant first, mark bit, stop bit (R111). -/
def charBits (value : Byte) (mark : Bool) : List Bool :=
  [false, value.getLsbD 7, value.getLsbD 6, value.getLsbD 5, value.getLsbD 4, value.getLsbD 3,
   value.getLsbD 2, value.getLsbD 1, value.getLsbD 0, mark, true]

/-- The bits of a notice: mark 1 on the header, 0 on the other characters (R111). -/
def noticeBits (cs : List Byte) : List Bool :=
  match cs with
  | [] => []
  | h :: rest => charBits h true ++ rest.flatMap (fun c => charBits c false)

/-- The wire is recessive at a bit while no station drives it (R110). -/
def wired (x y : List Bool) : List Bool := List.zipWith (fun a b => a && b) x y

/-- The first bit at which a station that sends `own` reads dominant where it sent recessive, on a wire
another station drives with `peer` (R118). -/
def lossAt : List Bool → List Bool → Option Nat
  | x :: xs, y :: ys => if x && !y then some 0 else (lossAt xs ys).map (fun n => n + 1)
  | _, _ => none

/-! ## Intake records -/

/-- The three flags of a PACKET tag. -/
def tagByte (directive frameStart runOpen runClose : Bool) : Byte :=
  BitVec.ofNat 8 ((if directive then 128 else 0) + (if frameStart then 4 else 0)
    + (if runOpen then 2 else 0) + (if runClose then 1 else 0))

/-- The body of a DECLARE. -/
def declareBody (d : Declaration) : List Byte :=
  [codeDeclare, d.flow, d.cls, d.legs] ++ bigEndian 5 d.pn.toNat ++ bigEndian 3 d.pd.toNat
    ++ bigEndian 2 d.n.toNat ++ bigEndian 2 d.a.toNat ++ bigEndian 2 d.t.toNat ++ bigEndian 4 d.o.toNat
    ++ [d.bmax] ++ bigEndian 2 d.w.toNat ++ bigEndian 2 d.smax.toNat ++ [d.u] ++ bigEndian 2 d.qmax.toNat

/-- The fields of a DECLARE body after its code. -/
def readDeclare (bs : List Byte) : Declaration :=
  { flow := bs.getD 0 0#8
    cls := bs.getD 1 0#8
    legs := bs.getD 2 0#8
    pn := BitVec.ofNat 40 (fromBytes ((bs.drop 3).take 5))
    pd := BitVec.ofNat 24 (fromBytes ((bs.drop 8).take 3))
    n := BitVec.ofNat 16 (fromBytes ((bs.drop 11).take 2))
    a := BitVec.ofNat 16 (fromBytes ((bs.drop 13).take 2))
    t := BitVec.ofNat 16 (fromBytes ((bs.drop 15).take 2))
    o := BitVec.ofNat 32 (fromBytes ((bs.drop 17).take 4))
    bmax := bs.getD 21 0#8
    w := BitVec.ofNat 16 (fromBytes ((bs.drop 22).take 2))
    smax := BitVec.ofNat 16 (fromBytes ((bs.drop 24).take 2))
    u := bs.getD 26 0#8
    qmax := BitVec.ofNat 16 (fromBytes ((bs.drop 27).take 2)) }

/-- A DIRECTIVE's body read by check 1 of R160: the directive, or an unknown one (R170). -/
def readDirective (body : List Byte) : Instr :=
  match body with
  | [] => .unknownDirective []
  | code :: rest =>
    if code = codeDeclare && rest.length == 29 then .declare (readDeclare rest)
    else
      match rest with
      | [] =>
        if code = codeQueryPeers then .queryPeers
        else if code = codeQueryStation then .queryStation
        else .unknownDirective body
      | [flow] =>
        if code = codeClose then .close flow
        else if code = codeAbandon then .abandon flow
        else if code = codeQueryFlow then .queryFlow flow
        else .unknownDirective body
      | [leg, action] =>
        if code = codeLegControl && action == 1#8 then .legControlOut leg
        else if code = codeLegControl && action == 2#8 then .legControlIn leg
        else .unknownDirective body
      | _ => .unknownDirective body

/-- A whole record of the intake stream, tag and bytes, as the command it is at its arrival. `none` for
bytes that are no whole record. -/
def readRecord (bs : List Byte) : Option Instr :=
  match bs with
  | b0 :: b1 :: b2 :: b3 :: rest =>
    if rest.length = fromBytes [b2, b3] then
      if b0.getLsbD 7 then some (readDirective rest)
      else some (.packetArrival b1 (b0.getLsbD 2) (b0.getLsbD 1) (b0.getLsbD 0) rest)
    else none
  | _ => none

/-- The record of a directive: unused tag bits 0. -/
def directiveRecord (body : List Byte) : List Byte :=
  tagByte true false false false :: 0#8 :: bigEndian 2 body.length ++ body

/-- The intake record that brings a command, for the commands that are records. -/
def writeRecord (i : Instr) : Option (List Byte) :=
  match i with
  | .packetArrival flow fs ro rc bytes =>
    some (tagByte false fs ro rc :: flow :: bigEndian 2 bytes.length ++ bytes)
  | .declare d => some (directiveRecord (declareBody d))
  | .close flow => some (directiveRecord [codeClose, flow])
  | .abandon flow => some (directiveRecord [codeAbandon, flow])
  | .queryFlow flow => some (directiveRecord [codeQueryFlow, flow])
  | .queryPeers => some (directiveRecord [codeQueryPeers])
  | .queryStation => some (directiveRecord [codeQueryStation])
  | .legControlOut leg => some (directiveRecord [codeLegControl, leg, 1#8])
  | .legControlIn leg => some (directiveRecord [codeLegControl, leg, 2#8])
  | .unknownDirective body => some (directiveRecord body)
  | _ => none

/-! ## Outcome records: code values (spec/12) -/

def FlowState.code (x : FlowState) : Byte :=
  match x with
  | .free => 0#8
  | .claimWait => 1#8
  | .claiming => 2#8
  | .armed => 3#8
  | .running => 4#8
  | .draining => 5#8

def FlowClass.code (x : FlowClass) : Byte := BitVec.ofNat 8 x.rank

def RefusedCode.code (x : RefusedCode) : Byte :=
  match x with
  | .noShare => 1#8
  | .claimTimeout => 2#8
  | .lineIsolated => 3#8
  | .duplicateStation => 4#8

def ClosedReason.code (x : ClosedReason) : Byte :=
  match x with
  | .drained => 1#8
  | .drainLimit => 2#8
  | .abandoned => 3#8
  | .withdrawn => 4#8

def LockCode.code (x : LockCode) : Byte :=
  match x with
  | .locked => 1#8
  | .relocked => 2#8

def DirectiveCode.code (x : DirectiveCode) : Byte :=
  match x with
  | .unknownDirective => 1#8
  | .badFlow => 2#8
  | .badLeg => 3#8
  | .flowBusy => 4#8
  | .notDeclared => 5#8
  | .closing => 6#8
  | .badClass => 7#8
  | .badLegs => 8#8
  | .badPeriod => 9#8
  | .badCount => 10#8
  | .badRatio => 11#8
  | .badOffset => 12#8
  | .badBurst => 13#8
  | .badSize => 14#8
  | .badUnit => 15#8
  | .badQueue => 16#8
  | .badRate => 17#8
  | .loadTooLarge => 18#8

def PeerCode.code (x : PeerCode) : Byte :=
  match x with
  | .joined => 1#8
  | .stale => 2#8
  | .lost => 3#8
  | .duplicate => 4#8

def LineCode.code (x : LineCode) : Byte :=
  match x with
  | .active => 1#8
  | .isolated => 2#8
  | .restored => 3#8

def LegCode.code (x : LegCode) : Byte :=
  match x with
  | .up => 1#8
  | .stalled => 2#8
  | .down => 3#8
  | .out => 4#8
  | .into => 5#8

def TimeCode.code (x : TimeCode) : Byte :=
  match x with
  | .step => 1#8
  | .impliedStep => 2#8
  | .invalid => 3#8

def PeerState.code (x : PeerState) : Byte :=
  match x with
  | .absent => 0#8
  | .live => 1#8
  | .stale => 2#8

def StationState.code (x : StationState) : Byte :=
  match x with
  | .solo => 1#8
  | .listenIn => 2#8
  | .active => 3#8
  | .isolated => 4#8
  | .duplicate => 5#8

def Service.code (x : Service) : Byte :=
  match x with
  | .up => 1#8
  | .stalled => 2#8
  | .down => 3#8
  | .out => 4#8

/-- Transmitter state: IDLE, OFFERING, RETRY_WAIT (R88). -/
def transmitterCode (x : Option Phase) : Byte :=
  match x with
  | none => 1#8
  | some .offering => 2#8
  | some (.retryWait _) => 3#8

def legCode (x : Leg) : Byte :=
  match x with
  | .a => 1#8
  | .b => 2#8

/-! ## Outcome records: bytes -/

def LegCounts.bytes (c : LegCounts) : List Byte :=
  [c.sent, c.late, c.lag, c.sink, c.fault, c.retries].flatMap (bigEndian 4)

/-- The counter block of 84 bytes. -/
def FlowCounters.bytes (c : FlowCounters) : List Byte :=
  c.legA.bytes ++ c.legB.bytes ++
    [c.intakeOver, c.oversize, c.runMalformed, c.shortFrame, c.longFrame, c.lockDiscard, c.skipped,
     c.step, c.closeFlush].flatMap (bigEndian 4)

def FlowReport.bytes (r : FlowReport) : List Byte :=
  [flagByte r.cancel, r.cls.code, BitVec.ofNat 8 r.legs.code, flagByte r.locked] ++ bigEndian 4 r.load
    ++ bigEndian 6 r.k ++ bigEndian 2 r.j ++ [BitVec.ofNat 8 r.creditA, BitVec.ofNat 8 r.creditB]
    ++ bigEndian 2 r.intake ++ [flagByte r.openRun, BitVec.ofNat 8 r.queueA, BitVec.ofNat 8 r.queueB, 0#8]
    ++ bigEndian 2 r.drainMs ++ r.counters.bytes

def LegTotals.bytes (c : LegTotals) : List Byte :=
  [c.packetsTaken, c.unitsSent, c.retries, c.faults, c.strayAnswer, c.sinkTotal, c.lateTotal,
   c.lagTotal].flatMap (bigEndian 4)

/-- A leg in the STATION_REPORT; a leg that is not fitted reads 0 throughout (R171). -/
def legReportBytes (r : Option LegReport) : List Byte :=
  match r with
  | some x => [1#8, x.service.code, transmitterCode x.phase, 0#8] ++ x.counters.bytes
  | none => List.replicate 36 0#8

def LineCounters.bytes (c : LineCounters) : List Byte :=
  [c.noticesSent, c.losses, c.framingErrors, c.checkErrors, c.formatErrors, c.breaksHeard].flatMap (bigEndian 4)

def StationReport.bytes (r : StationReport) : List Byte :=
  [r.station.code, BitVec.ofNat 8 r.straps.stn.val, BitVec.ofNat 8 r.straps.plr.val,
   BitVec.ofNat 8 r.straps.cap.val, flagByte r.straps.solo, flagByte r.straps.legb,
   flagByte r.timeValid, 0#8] ++ bigEndian 2 r.freeCells ++ legReportBytes r.legA ++ legReportBytes r.legB
    ++ r.line.bytes ++ bigEndian 4 r.stray ++ bigEndian 4 r.badLength

def flowSubject (f : FlowId) : Byte := BitVec.ofNat 8 f.val

def stationSubject (i : StationId) : Byte := BitVec.ofNat 8 i.val

/-- Kind, code, subject and body of an outcome. -/
def Outcome.parts (o : Outcome) : Byte × Byte × Byte × List Byte :=
  match o with
  | .flowAdmitted f => (1#8, 0#8, flowSubject f, [])
  | .flowRefused f c => (2#8, c.code, flowSubject f, [])
  | .flowLock f c k => (3#8, c.code, flowSubject f, bigEndian 6 k)
  | .flowClosed f r c l x =>
    (4#8, r.code, flowSubject f, [c.code, BitVec.ofNat 8 l.code, 0#8, 0#8] ++ x.bytes)
  | .flowReport f r => (5#8, r.state.code, flowSubject f, r.bytes)
  | .stationReport i r => (6#8, 0#8, stationSubject i, r.bytes)
  | .peerReport i e =>
    (7#8, e.state.code, stationSubject i,
     bigEndian 3 e.loadA ++ bigEndian 3 e.loadB ++ [BitVec.ofNat 8 e.count, BitVec.ofNat 8 e.age, 0#8])
  | .peerEnd i st a b n reports =>
    (7#8, 3#8, stationSubject i,
     bigEndian 3 a ++ bigEndian 3 b ++ [BitVec.ofNat 8 n, st.code, BitVec.ofNat 8 reports])
  | .peerEvent i c => (8#8, c.code, stationSubject i, [])
  | .lineEvent i c => (9#8, c.code, stationSubject i, [])
  | .legEvent l c => (10#8, c.code, legCode l, [])
  | .timeEvent c => (11#8, c.code, noSubject, [])
  | .directiveRefused c subject directive => (12#8, c.code, subject, [directive])

/-- An outcome record as it goes on the outcome stream: the common part of 14 bytes and the body. -/
def Record.bytes (r : Record) : List Byte :=
  match r.outcome.parts with
  | (kind, code, subject, body) =>
    [kind, if r.lost then 128#8 else 0#8, code, subject] ++ bigEndian 2 body.length
      ++ bigEndian 8 r.time ++ body

end Sys2Proof.Machine
end

