-- ==== Sys2Proof/Machine/PeerLine.lean ====
section
/-! DEFINITION. The commands of the Peer Line Controller (spec/07), with the Share View's application of
received notices (spec/08). -/

namespace Sys2Proof.Machine

def State.modLine (s : State) (g : Line → Line) : State := { s with line := g s.line }

def Line.count (x : Line) (g : LineCounters → LineCounters) : Line := { x with counters := g x.counters }

/-- One format error (R121, R122). -/
def State.formatError (s : State) : State :=
  s.modLine (fun x => x.count (fun c => { c with formatErrors := bump c.formatErrors }))

/-- The peer line is read and driven in every station state but SOLO (R127). -/
def State.onLine (s : State) : Bool := s.view.station != .solo

/-! ## Received notices at the Share View (R132-R135) -/

/-- A load stored for a peer: at most C (R34). -/
def State.clamp (s : State) (x : Nat) : Nat := min x (capacity s.straps.cap)

/-- The sender's entry made LIVE at age 0; an ABSENT one joins with PEER_EVENT JOINED (R132). -/
def State.hearPeer (s : State) (i : StationId) : State :=
  match (s.peer i).state with
  | .absent => (s.setPeer i ⟨.live, 0, 0, 0, 0⟩).emit (.peerEvent i .joined)
  | _ => s.setPeer i { s.peer i with state := .live, age := 0 }

/-- The content of a received notice applied to the sender's entry (R133-R135). -/
def State.applyContent (s : State) (i : StationId) (n : Notice) : State :=
  let e := s.peer i
  match n with
  | .load a b count =>
    s.setPeer i { e with loadA := s.clamp a, loadB := s.clamp b, count := min count Config.flowCountMax }
  | .claim mask x =>
    if (!maskNames mask .a || s.fits .a x) && (!maskNames mask .b || s.fits .b x) then
      s.setPeer i { e with loadA := if maskNames mask .a then s.clamp (e.loadA + x) else e.loadA
                           loadB := if maskNames mask .b then s.clamp (e.loadB + x) else e.loadB }
    else s
  | .yield mask x =>
    s.setPeer i { e with loadA := if maskNames mask .a then s.clamp (e.loadA - x) else e.loadA
                         loadB := if maskNames mask .b then s.clamp (e.loadB - x) else e.loadB }

/-- A valid notice of another station applied whole (R132). -/
def State.applyNotice (s : State) (i : StationId) (n : Notice) : State := (s.hearPeer i).applyContent i n

/-! ## The receiver (R120-R122) -/

/-- A valid notice handed on by its sender's number (R122). The own number is a duplicate detection, an own notice that
was cut in its last mark bit and reads whole among them (log 32, DESIGN CHOICE). -/
def State.handOn (s : State) (i : StationId) (n : Notice) : State :=
  if i = s.straps.stn then s.detectDuplicate else s.applyNotice i n

/-- The leg mask of a YIELD or CLAIM is 1, 2 or 3 (R122). -/
def Notice.maskOk (n : Notice) : Bool :=
  match n with
  | .yield m _ => decide (1 ≤ m) && decide (m ≤ 3)
  | .claim m _ => decide (1 ≤ m) && decide (m ≤ 3)
  | .load _ _ _ => true

/-- A notice of full length judged by its check and its leg mask (R122). -/
def State.judgeNotice (s : State) (cs : List Byte) : State :=
  if cs.sum ≠ 0#8 then
    s.modLine (fun x => x.count (fun c => { c with checkErrors := bump c.checkErrors }))
  else
    match readNotice cs with
    | some n => if n.maskOk then s.handOn (senderOf (cs.headD 0#8)) n else s.formatError
    | none => s.formatError

def State.setReceiver (s : State) (r : Receiver) : State := s.modLine (fun x => { x with receiver := r })

/-- A character with mark 1 taken as a header (R121). -/
def State.takeHeader (s : State) (value : Byte) : State :=
  match noticeLength value with
  | some _ => s.setReceiver (.inNotice [value])
  | none => (s.setReceiver .hunt).formatError

/-- A mark-0 character added to the notice; at its full length the notice ends. The own notice is not
received by its sender while it sends it (R119, R121, R122). A notice that a withdrawal cut is no longer sent and is
judged as any other (R116), also where the cut fell so late that the wire carries it whole (log 32, DESIGN CHOICE). -/
def State.addCharacter (s : State) (cs : List Byte) (value : Byte) : State :=
  let full := cs ++ [value]
  match noticeLength (full.headD 0#8) with
  | some n =>
    if full.length < n then s.setReceiver (.inNotice full)
    else if s.line.sending.isSome then s.setReceiver .hunt
    else (s.setReceiver .hunt).judgeNotice full
  | none => s.setReceiver .hunt

/-- A character whose stop bit is recessive, in HUNT or IN_NOTICE (R121). An arbitration loss inside it is
first judged a duplicate detection (R118, R126). The recessive bit times are counted anew from its stop bit (R112). -/
def State.takeCharacter (s : State) (value : Byte) (mark : Bool) : State :=
  if s.onLine then
    match s.line.receiver with
    | .waitFree => s
    | r =>
      let s0 := s.modLine (fun x => { x with freePoint := .normal, bodyLoss := false, bits := .zero })
      let s1 := if s.line.bodyLoss then s0.detectDuplicate else s0
      match r, mark with
      | .inNotice cs, false => s1.addCharacter cs value
      | .inNotice _, true => ((s1.setReceiver .hunt).formatError).takeHeader value
      | _, true => s1.takeHeader value
      | _, false => s1
  else s

/-- CHARACTER_RECEIVED (R121). -/
def execCharacterReceived (value : Byte) (mark : Bool) (s : State) : Host.Outcome State Fault Refusal :=
  whenActing s (s.takeCharacter value mark)

/-- NOTICE_RECEIVED: the mark-0 character that brings the notice to its length (R122). -/
def execNoticeReceived (last : Byte) (s : State) : Host.Outcome State Fault Refusal :=
  whenActing s (s.takeCharacter last false)

/-- UNKNOWN_HEADER: a mark-1 character (R121). -/
def execUnknownHeader (value : Byte) (s : State) : Host.Outcome State Fault Refusal :=
  whenActing s (s.takeCharacter value true)

/-- FRAMING_ERROR: counted in HUNT and IN_NOTICE, not for the own break (R120, R123). -/
def execFramingError (s : State) : Host.Outcome State Fault Refusal :=
  whenever (s.onLine && s.line.receiver != .waitFree && !s.line.driving && s.line.sending.isNone) s
    (s.modLine (fun x =>
      { x.count (fun c => { c with framingErrors := bump c.framingErrors }) with
        receiver := .waitFree, bodyLoss := false, freePoint := .normal, bits := .zero }))

/-- The wire free: WAIT_FREE to HUNT, and a notice still being collected has ended short (R120, R121). -/
def State.wireFree (s : State) : State :=
  match s.line.receiver with
  | .waitFree => s.setReceiver .hunt
  | .hunt => s
  | .inNotice _ => (s.setReceiver .hunt).formatError

/-- WIRE_FREE, in the states in which it is not the wire's restoration (R120, R125, log 24). -/
def execWireFree (s : State) : Host.Outcome State Fault Refusal :=
  whenever (s.onLine && s.view.station != .isolated && s.line.sending.isNone && !s.line.driving) s
    (s.wireFree.modLine (fun x => { x with bodyLoss := false, bits := .idle }))

/-! ## Sending (R117-R119) -/

/-- The recessive bit times before an own start (R112). -/
def FreePoint.bits (x : FreePoint) : Nat :=
  match x with
  | .normal => Config.idleBits
  | .later => Config.ownIdleBits

/-- The first entry goes on the wire (R114, R117). -/
def markHead : List SendEntry → List SendEntry
  | [] => []
  | e :: es => { e with onWire := true, changed := false } :: es

/-- A start is possible: the station speaks, is not sending and drives no break, and the wire has been recessive up to
its free point. The receiver's count at the start is the one that the command brings: the count held is that of the
latest event, and the wire may have gone dominant since (R112, R117, log 9). -/
def State.mayStart (s : State) (recessive : Nat) : Bool :=
  s.view.station.speaks && s.line.sending.isNone && !s.line.driving && decide (s.line.freePoint.bits ≤ recessive)

/-- The head entry's notice starts with its content as it stands (R113, R117). Its start bit ends the recessive run
(R112). -/
def State.startNotice (s : State) : State :=
  s.wireFree.modLine (fun x =>
    { x with sending := x.sendList.head?.map (fun e => e.notice), sendList := markHead x.sendList,
             freePoint := .normal, bodyLoss := false, bits := .zero })

/-- NOTICE_START; a pending break goes first (R117). -/
def execNoticeStart (recessive : Nat) (s : State) : Host.Outcome State Fault Refusal :=
  whenever (s.mayStart recessive && !s.line.pendingBreak && !s.line.sendList.isEmpty) s s.startNotice

/-- The own notice loses arbitration (R118). A loss while the receiver holds no character of it lies in
the header. -/
def State.loseArbitration (s : State) (n : Notice) : State :=
  let inHeader := match s.line.receiver with
    | .inNotice _ => false
    | _ => true
  let s1 := s.modLine (fun x =>
    { (x.leaveWire).count (fun c => { c with losses := bump c.losses }) with bodyLoss := !inHeader })
  if n.isClaim then s1.claimLeftWire else s1

/-- ARBITRATION_LOSS of the notice being sent (R118). -/
def execArbitrationLoss (s : State) : Host.Outcome State Fault Refusal :=
  match s.line.sending with
  | some n => whenActing s (s.loseArbitration n)
  | none => .next s

/-- The own notice completes (R119). -/
def State.completeNotice (s : State) (n : Notice) : State :=
  let s1 := s.modLine (fun x =>
    { x.count (fun c => { c with noticesSent := bump c.noticesSent }) with
      sending := none, sendList := completeEntry n x.sendList, freePoint := .later, receiver := .hunt,
      bodyLoss := false, bits := .zero })
  if n.isClaim then s1.claimCompleted else s1

/-- NOTICE_COMPLETE of the notice being sent (R119, R150, R151). -/
def execNoticeComplete (s : State) : Host.Outcome State Fault Refusal :=
  match s.line.sending with
  | some n => whenActing s (s.completeNotice n)
  | none => .next s

/-! ## Breaks and the stuck line (R123-R125) -/

/-- BREAK_START of a pending break (R117, R123). -/
def execBreakStart (recessive : Nat) (s : State) : Host.Outcome State Fault Refusal :=
  whenever (s.mayStart recessive && s.line.pendingBreak) s
    (s.wireFree.modLine (fun x => { x with driving := true, freePoint := .normal, bodyLoss := false, bits := .zero }))

/-- A break taken as heard (R124): counted, the receiver WAIT_FREE, the notice being sent abandoned, a
LOAD placed in LISTEN_IN and ACTIVE. -/
def State.hearBreak (s : State) : State :=
  let s1 := s.modLine (fun x =>
    { x.count (fun c => { c with breaksHeard := bump c.breaksHeard }) with
      receiver := .waitFree, bodyLoss := false, freePoint := .normal, bits := .broken })
  let s2 :=
    match s.line.sending with
    | some n =>
      let t := s1.modLine Line.leaveWire
      if n.isClaim then t.claimLeftWire else t
    | none => s1
  s2.placeLoadIfSpeaking

/-- BREAK_HEARD of another station's dominant run (R123, R124). -/
def execBreakHeard (s : State) : Host.Outcome State Fault Refusal :=
  whenever (s.onLine && !s.line.driving) s s.hearBreak

/-- The own break ends: a LOAD placed and the LISTEN_IN timer started (R123, R137, R139). -/
def State.completeBreak (s : State) : State :=
  let s1 := s.modLine (fun x =>
    { x with driving := false, pendingBreak := false, receiver := .waitFree, freePoint := .normal, bits := .zero })
  let s2 := s1.placeLoad
  { s2 with view := { s2.view with listen := some (s.ownClock + Config.listenNs) } }

/-- BREAK_COMPLETE; a run held longer than the own 14 bit times is also taken as heard (R123). -/
def execBreakComplete (heldLonger : Bool) (s : State) : Host.Outcome State Fault Refusal :=
  whenever (s.line.driving && s.view.station == .listenIn) s
    (if heldLonger then s.hearBreak.completeBreak else s.completeBreak)

/-- The wire is stuck: a run that holds the own break is taken as heard, and a station in LISTEN_IN or
ACTIVE becomes ISOLATED (R123, R125, R141). -/
def State.stuck (s : State) : State :=
  let s1 := (if s.line.driving then s.hearBreak else s).modLine (fun x => { x with bits := .stuck })
  if s1.view.station.speaks then s1.enterIsolated else s1

/-- STUCK_LINE (R125). -/
def execStuckLine (s : State) : Host.Outcome State Fault Refusal := whenever s.onLine s s.stuck

/-- WIRE_RESTORED of an ISOLATED station (R125, R141). -/
def execWireRestored (s : State) : Host.Outcome State Fault Refusal :=
  whenever (s.view.station == .isolated) s s.enterRestored

end Sys2Proof.Machine
end

