-- ==== Sys2Proof/Machine/ShareView.lean ====
section
/-! DEFINITION. The Share View's commands REFRESH_TICK, LISTEN_IN_TIMEOUT and QUERY_PEERS (spec/08), and
the Admission Unit's CLAIM_TIMEOUT (spec/09). -/

namespace Sys2Proof.Machine

/-! ## REFRESH_TICK (R136, R137) -/

/-- One peer entry ages by a tick (R136). -/
def State.agePeer (s : State) (i : StationId) : State :=
  let e := s.peer i
  if i = s.straps.stn || e.state == .absent then s
  else if Config.lostAge ≤ e.age + 1 then (s.setPeer i PeerEntry.absent).emit (.peerEvent i .lost)
  else if e.age + 1 = Config.staleAge ∧ e.state = .live then
    (s.setPeer i { e with state := .stale, age := e.age + 1 }).emit (.peerEvent i .stale)
  else s.setPeer i { e with age := e.age + 1 }

/-- The peer entries age in LISTEN_IN, ACTIVE and DUPLICATE, in the order of their numbers (R136, log 14). -/
def State.agePeers (s : State) : State :=
  if s.view.station.speaks || s.view.station == .duplicate then allStations.foldl State.agePeer s else s

/-- The refresh timer runs out and starts its next period (R136). -/
def State.restartRefresh (s : State) : State :=
  let s1 := s.reach s.view.refresh
  { s1 with view := { s1.view with refresh := s1.view.refresh + Config.refreshNs } }

/-- REFRESH_TICK (R136, R137). -/
def execRefreshTick (s : State) : Host.Outcome State Fault Refusal :=
  whenActing s (s.restartRefresh.agePeers.placeLoadIfSpeaking)

/-! ## LISTEN_IN_TIMEOUT (R139) -/

/-- LISTEN_IN_TIMEOUT of a running LISTEN_IN timer (R139, R153). -/
def execListenInTimeout (s : State) : Host.Outcome State Fault Refusal :=
  match s.view.listen with
  | some d => whenever (s.view.station == .listenIn) s (s.reach d).enterActive
  | none => .next s

/-! ## QUERY_PEERS (R144) -/

/-- The peers that are LIVE or STALE, in order. -/
def State.livePeers (s : State) : List StationId :=
  allStations.filter (fun i => i != s.straps.stn && (s.peer i).state != .absent)

/-- The reports, one after another, and the end marker (R144). -/
def State.reportPeers (s : State) : State :=
  (s.livePeers.foldl (fun t i => t.emit (.peerReport i (s.peer i))) s).emit
    (.peerEnd s.straps.stn s.view.station s.adm.ownA s.adm.ownB s.ownCount s.livePeers.length)

/-- QUERY_PEERS (R144). -/
def execQueryPeers (s : State) : Host.Outcome State Fault Refusal := onRecord s s.reportPeers

/-! ## CLAIM_TIMEOUT (R116, R152, R157) -/

/-- CLAIM_TIMEOUT of a running claim timer. A CLAIM in its last stop bit is not cut: the withdrawal waits
and the completion decides the claim (R116, R152, log 23). Where that stop bit reads dominant, so that the notice is
lost instead of completing, the withdrawal is dropped, and CLAIM_TIMEOUT may be listed again (log 33, DESIGN CHOICE). -/
def execClaimTimeout (inLastStopBit : Bool) (s : State) : Host.Outcome State Fault Refusal :=
  match s.adm.claiming, s.adm.claimTimer with
  | some f, some d =>
    whenActing s
      (if s.line.claimOnWire && inLastStopBit then s.reach d else (s.reach d).claimTimedOut f)
  | _, _ => .next s

end Sys2Proof.Machine
end

