-- ==== Sys2Proof/Machine/Dispatch.lean ====
section
/-! DEFINITION. One arm per command: the meaning each constructor of `Instr` has. -/

namespace Sys2Proof.Machine

def exec (i : Instr) (s : State) : Host.Outcome State Fault Refusal :=
  match i with
  | .resetAssert => Sys2Proof.Machine.execResetAssert s
  | .resetEnd straps permitA permitB freeze => Sys2Proof.Machine.execResetEnd straps permitA permitB freeze s
  | .packetArrival flow frameStart runOpen runClose bytes => Sys2Proof.Machine.execPacketArrival flow frameStart runOpen runClose bytes s
  | .declare d => Sys2Proof.Machine.execDeclare d s
  | .close flow => Sys2Proof.Machine.execClose flow s
  | .abandon flow => Sys2Proof.Machine.execAbandon flow s
  | .queryFlow flow => Sys2Proof.Machine.execQueryFlow flow s
  | .queryPeers => Sys2Proof.Machine.execQueryPeers s
  | .queryStation => Sys2Proof.Machine.execQueryStation s
  | .legControlOut leg => Sys2Proof.Machine.execLegControlOut leg s
  | .legControlIn leg => Sys2Proof.Machine.execLegControlIn leg s
  | .unknownDirective body => Sys2Proof.Machine.execUnknownDirective body s
  | .outcomeDeliveryStart => Sys2Proof.Machine.execOutcomeDeliveryStart s
  | .outcomeDeliveryEnd ready => Sys2Proof.Machine.execOutcomeDeliveryEnd ready s
  | .timeStepStrobe => Sys2Proof.Machine.execTimeStepStrobe s
  | .timeReading valid value => Sys2Proof.Machine.execTimeReading valid value s
  | .binderExamination flow => Sys2Proof.Machine.execBinderExamination flow s
  | .calendarNamesEntry leg => Sys2Proof.Machine.execCalendarNamesEntry leg s
  | .take leg => Sys2Proof.Machine.execTake leg s
  | .retry leg => Sys2Proof.Machine.execRetry leg s
  | .fault leg => Sys2Proof.Machine.execFault leg s
  | .retryReoffer leg => Sys2Proof.Machine.execRetryReoffer leg s
  | .permitFall leg => Sys2Proof.Machine.execPermitFall leg s
  | .permitRise leg => Sys2Proof.Machine.execPermitRise leg s
  | .stallTimeout leg => Sys2Proof.Machine.execStallTimeout leg s
  | .freezeRise => Sys2Proof.Machine.execFreezeRise s
  | .freezeFall => Sys2Proof.Machine.execFreezeFall s
  | .drainComplete flow => Sys2Proof.Machine.execDrainComplete flow s
  | .drainLimit flow => Sys2Proof.Machine.execDrainLimit flow s
  | .claimTimeout inLastStopBit => Sys2Proof.Machine.execClaimTimeout inLastStopBit s
  | .noticeStart recessive => Sys2Proof.Machine.execNoticeStart recessive s
  | .arbitrationLoss => Sys2Proof.Machine.execArbitrationLoss s
  | .noticeComplete => Sys2Proof.Machine.execNoticeComplete s
  | .noticeReceived last => Sys2Proof.Machine.execNoticeReceived last s
  | .framingError => Sys2Proof.Machine.execFramingError s
  | .unknownHeader value => Sys2Proof.Machine.execUnknownHeader value s
  | .wireFree => Sys2Proof.Machine.execWireFree s
  | .breakStart recessive => Sys2Proof.Machine.execBreakStart recessive s
  | .breakComplete heldLonger => Sys2Proof.Machine.execBreakComplete heldLonger s
  | .breakHeard => Sys2Proof.Machine.execBreakHeard s
  | .stuckLine => Sys2Proof.Machine.execStuckLine s
  | .wireRestored => Sys2Proof.Machine.execWireRestored s
  | .listenInTimeout => Sys2Proof.Machine.execListenInTimeout s
  | .refreshTick => Sys2Proof.Machine.execRefreshTick s
  | .characterReceived value mark => Sys2Proof.Machine.execCharacterReceived value mark s

end Sys2Proof.Machine
end

