-- ==== Sys2Proof/WellFormed.lean ====
section
/-! DEFINITION. Which commands can stand in the intake stream or on the part's lines: the operands whose
types admit more than the spec does. -/

namespace Sys2Proof

/-- A tag's length field holds at most 65,535 (spec/12, Intake tag). -/
def lengthFits (bytes : List Byte) : Bool := decide (bytes.length < 65536)

/-- A command is well formed: a record's bytes fit the length field, and UNKNOWN_DIRECTIVE carries a body
that check 1 of R160 refuses. Every other operand's type is the field's own width. -/
def Instr.wellFormed (i : Instr) : Bool :=
  match i with
  | .packetArrival _ _ _ _ bytes => lengthFits bytes
  | .unknownDirective body =>
    lengthFits body && (Machine.readDirective body == .unknownDirective body)
  | .resetAssert | .resetEnd _ _ _ _ | .declare _ | .close _ | .abandon _ | .queryFlow _ | .queryPeers
  | .queryStation | .legControlOut _ | .legControlIn _ | .outcomeDeliveryStart | .outcomeDeliveryEnd _
  | .timeStepStrobe | .timeReading _ _ | .binderExamination _ | .calendarNamesEntry _ | .take _ | .retry _
  | .fault _ | .retryReoffer _ | .permitFall _ | .permitRise _ | .stallTimeout _ | .freezeRise | .freezeFall
  | .drainComplete _ | .drainLimit _ | .claimTimeout _ | .noticeStart _ | .arbitrationLoss | .noticeComplete
  | .noticeReceived _ | .framingError | .unknownHeader _ | .wireFree | .breakStart _ | .breakComplete _
  | .breakHeard | .stuckLine | .wireRestored | .listenInTimeout | .refreshTick | .characterReceived _ _ => true

end Sys2Proof
end

