-- ==== Sys2Proof/Safety.lean ====
section
/-! DEFINITION. What a sound state of the part is, in the terms the statements use: the invariants the
rules name, each a predicate on one state. -/

namespace Sys2Proof.Machine

/-- The outcome queue holds at most 64 records (R165). -/
def State.OutcomesBounded (s : State) : Prop := s.port.outcomes.length ≤ 64

/-- The free pool count plus the cells of all held units is 8192 (R40). -/
def State.PoolWhole (s : State) : Prop :=
  s.store.freeCells + (s.store.units.map Bundle.cells).sum = 8192

/-- A fitted leg that is IDLE while serving is allowed has its request open, and no other has (R98). -/
def State.RequestsSettled (s : State) : Prop :=
  ∀ l : Leg, s.fitted l = true →
    (s.leg l).request = ((s.leg l).hand.isNone && ((s.leg l).service != .stalled) && !s.freeze)

/-- A flow number stands in the claim queue exactly while its flow is CLAIM_WAIT and not twice; it is the
CLAIMING flow exactly while its flow is CLAIMING; the claim timer runs exactly then; a flow is CLAIMING
only in ACTIVE (R146, R157). -/
def State.ClaimsConsistent (s : State) : Prop :=
  s.adm.claimQueue.Nodup ∧
  (∀ f : FlowId, f ∈ s.adm.claimQueue ↔ (s.flow f).state = .claimWait) ∧
  (∀ f : FlowId, s.adm.claiming = some f ↔ (s.flow f).state = .claiming) ∧
  (s.adm.claiming.isSome = s.adm.claimTimer.isSome) ∧
  (s.adm.claiming.isSome = true → s.view.station = .active)

/-- The sum of L over the flows in ARMED, RUNNING or DRAINING that use a leg (R155). -/
def State.committed (s : State) (l : Leg) : Nat :=
  (allFlows.map (fun f =>
    if (s.flow f).holdsLoad && (s.flow f).params.legs.uses l then (s.flow f).derived.load else 0)).sum

/-- The own entry's load on each leg is that sum, and no more than the admission limit (R155). -/
def State.OwnEntryExact (s : State) : Prop :=
  s.ClaimsConsistent ∧
  (∀ l : Leg, s.adm.own l = s.committed l) ∧
  (∀ l : Leg, s.adm.own l ≤ admissionLimit s.straps.cap)

/-- Parameters that passed the checks of R5 that the arithmetic rests on. -/
def Params.Paced (p : Params) : Prop :=
  1 ≤ p.pn ∧ 1 ≤ p.pd ∧ 1 ≤ p.n ∧ 1 ≤ p.a ∧ p.a ≤ p.t ∧ 1000000 ≤ p.pn / p.pd ∧
  p.o < p.pn / p.pd ∧ 64 * (p.pd * p.t * p.n) ≤ p.pn * p.a

/-- What the Flow Table, the Intake Unit, the Binder, the Leg Transmitters and the Release Calendar keep of every
flow. -/
structure Flow.Sound (x : Flow) : Prop where
  /-- A declared flow passed the checks, and its derived values are those of its parameters (R1, R5). -/
  declared : x.state ≠ .free → x.derived = x.params.derive ∧ x.params.Paced
  /-- The intake count is at most Qmax (R42, R51). -/
  intake : x.intakeQ.length + x.slot.units.length ≤ x.params.qmax
  /-- The slot is EMPTY outside ARMED and RUNNING (R50). -/
  slot : x.state ≠ .armed → x.state ≠ .running → x.slot = .empty
  /-- Outside ARMED, RUNNING and DRAINING no unit waits in the intake queue (R3, R51). -/
  intakeQ : x.state = .free ∨ x.state = .claimWait ∨ x.state = .claiming → x.intakeQ = []
  /-- A RUNNING flow is LOCKED (R8, R53). -/
  running : x.state = .running → x.lock ≠ none
  /-- While UNLOCKED a flow has no bound unit waiting and no credit (R53, R67, R81). -/
  unlocked : x.lock = none → ∀ l, x.queue l = [] ∧ x.credit l = 0
  /-- A LOCKED flow is RUNNING or DRAINING, and its carried pairs are the direct formulas at its position (k,j),
  with j below N (R22, R24, R53). -/
  locked : ∀ p, x.lock = some p →
    (x.state = .running ∨ x.state = .draining) ∧
    p.q = p.k * x.params.pn / x.params.pd ∧ p.r = p.k * x.params.pn % x.params.pd ∧
    p.off = p.j * x.params.sn / x.params.sd ∧ p.rem = p.j * x.params.sn % x.params.sd ∧
    p.j < x.params.n
  /-- A credit is at most Bmax (R80). -/
  credits : ∀ l, x.credit l ≤ x.params.bmax
  /-- A leg queue holds at most 8 units, at most 1 of a single-leg flow, and none on a leg the flow does not use
  (R89). -/
  queues : ∀ l, (x.queue l).length ≤
    if x.params.legs = .dual then 8 else if x.params.legs.uses l then 1 else 0

/-- Every flow is sound, with the claim queue consistent. -/
def State.FlowsSound (s : State) : Prop :=
  s.ClaimsConsistent ∧ ∀ f : FlowId, (s.flow f).Sound

/-- Within a leg queue the due times of the bound units strictly increase from oldest to newest, and each lies
before the instant of the flow's position, at which the next unit is bound (R64, R89). -/
def State.DuesIncrease (s : State) : Prop :=
  ∀ (f : FlowId) (l : Leg),
    ((s.flow f).queue l).Pairwise (fun x y => ∃ a b, s.unitDue x = some a ∧ s.unitDue y = some b ∧ a < b) ∧
    ∀ id ∈ (s.flow f).queue l, ∃ d, s.unitDue id = some d ∧
      ∀ p, (s.flow f).lock = some p → d < p.q + (s.flow f).params.o + p.off

/-- How many places hold a unit: assembly slots, intake queues, leg queues and the hands of the legs (R40). -/
def State.places (s : State) (id : Nat) : Nat :=
  (allFlows.map (fun f => (s.flow f).holds.count id)).sum +
    ([Leg.a, Leg.b].filter (fun l => (s.leg l).hand.map Hand.unit == some id)).length

/-- Every unit's holder count is the number of places where it stands and not 0, a place holds only units
that exist, and a unit in an assembly slot or an intake queue stands nowhere else (R40). -/
def State.HoldersExact (s : State) : Prop :=
  (s.store.units.map Bundle.id).Nodup ∧
  (∀ u ∈ s.store.units, u.id < s.store.nextId ∧ 1 ≤ u.holders ∧ u.holders = s.places u.id) ∧
  (∀ id, 1 ≤ s.places id → ∃ u ∈ s.store.units, u.id = id) ∧
  (∀ f : FlowId, ∀ id ∈ (s.flow f).slot.units ++ (s.flow f).intakeQ, s.places id = 1)

/-- What the passage to FREE of R9 does between s and t: `x` is the flow's record as the discards before it
left it. The flow is FREE; the other flows stay; a unit of it in hand is detached; its load leaves the own
entry, with a YIELD where the station speaks and a pending LOAD brought up to date; FLOW_CLOSED joins the
outcome queue with the counters as they stand; nothing else of the part but the Cell Store may differ. -/
structure State.FlowEnded (s t : State) (f : FlowId) (reason : ClosedReason) (x : Flow) : Prop where
  record : t.flow f = { x with state := .free, drain := none, lock := none, creditA := 0, creditB := 0 }
  others : ∀ g : FlowId, g ≠ f → t.flow g = s.flow g
  detached : ∀ l : Leg, t.leg l =
    match (s.leg l).hand with
    | some h =>
      if t.unitFlow h.unit = some f then { s.leg l with hand := some { h with detached := true } } else s.leg l
    | none => s.leg l
  own : t.adm = { s.adm with
    ownA := if x.params.legs.uses .a then s.adm.ownA - x.derived.load else s.adm.ownA
    ownB := if x.params.legs.uses .b then s.adm.ownB - x.derived.load else s.adm.ownB }
  notices : t.line =
    let yielded :=
      if s.view.station = .listenIn ∨ s.view.station = .active then
        addYield x.params.legs.code x.derived.load s.line.sendList
      else s.line.sendList
    { s.line with
      sendList :=
        if yielded.any (fun e => e.notice.isLoad) then addLoad t.adm.ownA t.adm.ownB t.ownCount yielded
        else yielded }
  closed : t.port =
    s.port.add s.stationTime (.flowClosed f reason x.params.cls x.params.legs x.shownCounters)
  rest : t = { s with
    flows := t.flows, store := t.store, legA := t.legA, legB := t.legB, line := t.line, adm := t.adm,
    port := t.port }

/-! ## Counters (R2, R37, R107, R128) -/

def LegCounts.values (c : LegCounts) : List Nat := [c.sent, c.late, c.lag, c.sink, c.fault, c.retries]

def FlowCounters.values (c : FlowCounters) : List Nat :=
  c.legA.values ++ c.legB.values ++
    [c.intakeOver, c.oversize, c.runMalformed, c.shortFrame, c.longFrame, c.lockDiscard, c.skipped, c.step,
     c.closeFlush]

def LegTotals.values (c : LegTotals) : List Nat :=
  [c.packetsTaken, c.unitsSent, c.retries, c.faults, c.strayAnswer, c.sinkTotal, c.lateTotal, c.lagTotal]

def LineCounters.values (c : LineCounters) : List Nat :=
  [c.noticesSent, c.losses, c.framingErrors, c.checkErrors, c.formatErrors, c.breaksHeard]

/-- Every counter of the part is at most 4,294,967,295 (R2, R37, R107, R128). -/
def State.CountersBounded (s : State) : Prop :=
  (∀ f : FlowId, ∀ c ∈ (s.flow f).counters.values, c ≤ 4294967295) ∧
  (∀ l : Leg, ∀ c ∈ (s.leg l).counters.values, c ≤ 4294967295) ∧
  (∀ c ∈ s.line.counters.values, c ≤ 4294967295) ∧
  s.store.stray ≤ 4294967295 ∧ s.store.badLength ≤ 4294967295

/-- The receiver's counts of bit times in a row between two events of the line (R112, R120, R124, R125, log 9). -/
structure State.BitCountsSound (s : State) : Prop where
  /-- A run is recessive or dominant. -/
  oneRun : s.line.bits.recessive = 0 ∨ s.line.bits.dominant = 0
  /-- The counts reach the free wire and the stuck wire. -/
  recessive : s.line.bits.recessive ≤ 12
  dominant : s.line.bits.dominant ≤ 64
  /-- A receiver in WAIT_FREE has not yet seen the wire free (R120). -/
  waiting : s.line.receiver = .waitFree → s.line.bits.recessive = 0

/-! ## The send list (R114, R115, R148) -/

/-- What the send list is at every moment. -/
structure State.SendListSound (s : State) : Prop where
  /-- YIELD entries first, then the CLAIM, then the LOAD (R114). -/
  ordered : s.line.sendList.Pairwise (fun x y => x.notice.rank ≤ y.notice.rank)
  /-- At most one CLAIM, one LOAD, and one YIELD per leg mask (R114). -/
  oneClaim : (s.line.sendList.filter (fun e => e.notice.isClaim)).length ≤ 1
  oneLoad : (s.line.sendList.filter (fun e => e.notice.isLoad)).length ≤ 1
  oneYield : ∀ mask, (s.line.sendList.filter (fun e => e.notice.isYieldOn mask)).length ≤ 1
  /-- At most one entry is on the wire, and one is exactly while a notice is being sent (R114). -/
  oneOnWire : (s.line.sendList.filter (fun e => e.onWire)).length ≤ 1
  sending : s.line.sendList.any (fun e => e.onWire) = s.line.sending.isSome
  /-- No notice is sent while the own break is driven (R117, R123). -/
  quiet : s.line.driving = true → s.line.sending = none
  /-- The notice being sent is of the kind of the entry on the wire, and of its content while the entry is not
  changed (R113, R115). -/
  sent : ∀ e ∈ s.line.sendList, e.onWire = true → ∀ n, s.line.sending = some n →
    n.rank = e.notice.rank ∧ (e.changed = false → n = e.notice)
  /-- Only an entry on the wire is marked as changed, and never the CLAIM (R115). -/
  changed : ∀ e ∈ s.line.sendList, e.changed = true → e.onWire = true ∧ e.notice.isClaim = false
  /-- A CLAIM stands in the list exactly while a flow is CLAIMING (R115, R148). -/
  claim : s.line.sendList.any (fun e => e.notice.isClaim) = s.adm.claiming.isSome
  /-- The list is empty in SOLO, ISOLATED and DUPLICATE (R114, R116). -/
  silent : s.view.station ≠ .listenIn → s.view.station ≠ .active → s.line.sendList = []

end Sys2Proof.Machine
end

