-- ==== Sys2Proof/Certificates/Slice0/Obligations.lean ====
section
/-! DEFINITION. The statements for the provers, in the order of OBLIGATIONS.json: what the block does with
each command, what it leaves unchanged, and the invariants every step keeps. -/

open Sys2Proof Sys2Proof.Machine

/-! ## The block and its reset -/

/-- A step runs the command at the front of the queue on the rest of the queue; on an empty queue the block
idles, which is the model's choice (log 2). -/
def Obligations.StepRunsTheFrontCommand : Prop :=
  ∀ s : State,
    (s.pending = [] → step s = .next s) ∧
    ∀ (c : Instr) (rest : List Instr), s.pending = c :: rest → step s = exec c { s with pending := rest }

/-- Every command answers a next state from every state, an event that cannot occur there leaving the state as it
is (the model's choice, log 1); it leaves the queue of commands as it is (the model's choice, log 3), and keeps the
outcome queue at 64 records or fewer (R165). -/
def Obligations.EveryCommandAnswersNext : Prop :=
  ∀ (c : Instr) (s : State),
    ∃ t, exec c s = .next t ∧ t.pending = s.pending ∧ (s.OutcomesBounded → t.OutcomesBounded)

/-- RESET_ASSERT holds the part in reset, the blocks' state being kept unread under the mark (the model's, log 7).
While it is held no command but RESET_END changes anything and every output is idle (R168). That no request is open
at the calendar meanwhile is how the model reads the two rules on requests after reset (R87, R109), log 29. -/
def Obligations.NoBlockActsInReset : Prop :=
  (∀ s : State, exec .resetAssert s = .next { s with inReset := true }) ∧
  ∀ (c : Instr) (s : State), s.inReset = true →
    (∀ straps permitA permitB freeze, c ≠ .resetEnd straps permitA permitB freeze) →
    exec c s = .next s ∧ s.intakeReady = false ∧ s.attention = false ∧ s.onOutcomeStream = none ∧
      (∀ l, s.offer l = none ∧ s.requestOpen l = false) ∧ s.drive = .released

/-- RESET_END leaves every block as its chapter states (R18, R52, R71, R87, R109, R129, R145, R158, R169), with the
request of a leg open while serving is allowed (log 29). That it acts from every state, in reset or not (log 6), and
leaves the commands that wait unchanged (log 22) is the model's choice. Timers are held as
deadlines of the own clock (log 4). -/
def Obligations.ResetEndSetsEveryBlock : Prop :=
  ∀ (straps : Straps) (permitA permitB freeze : Bool) (s : State),
    ∃ t, exec (.resetEnd straps permitA permitB freeze) s = .next t ∧
      t.inReset = false ∧ t.straps = straps ∧ t.freeze = freeze ∧ t.pending = s.pending ∧
      (∀ f, t.flow f =
        { state := .free, params := .zero, derived := .zero, cancel := false, drain := none,
          counters := .zero, lock := none, slot := .empty, intakeQ := [], creditA := 0, creditB := 0,
          queueA := [], queueB := [] }) ∧
      t.store.freeCells = 8192 ∧ t.store.units = [] ∧ t.store.stray = 0 ∧ t.store.badLength = 0 ∧
      t.time = { cursor := none, previous := none, latch := false, valid := false } ∧
      (∀ l, t.fitted l = true →
        let on := match l with
          | .a => permitA
          | .b => permitB
        t.leg l =
          { service := if on then .up else .stalled, permit := on,
            stall := if on then none else some (t.ownClock + 10000000), hand := none,
            request := on && !freeze, counters := .zero }) ∧
      t.line = { receiver := .waitFree, sending := none, sendList := [], pendingBreak := !straps.solo,
                 driving := false, freePoint := .normal, bodyLoss := false, bits := ⟨0, 0⟩, counters := .zero } ∧
      (∀ i, t.peer i = { state := .absent, loadA := 0, loadB := 0, count := 0, age := 0 }) ∧
      t.view.station = (if straps.solo then .solo else .listenIn) ∧
      t.view.refresh = t.ownClock + 100000000 ∧ t.view.listen = none ∧
      t.adm = { claimQueue := [], claiming := none, claimTimer := none, ownA := 0, ownB := 0 } ∧
      t.port = { outcomes := [], lossMark := false, delivering := false } ∧
      t.intakeReady = true ∧ t.attention = false

/-! ## The Flow Table -/

/-- R4: a DECLARE of a flow that is not FREE is refused FLOW_BUSY, one of a number above 63 BAD_FLOW, and
nothing but the outcome queue changes. -/
def Obligations.DeclareRefusedForBusyOrUnknownFlow : Prop :=
  ∀ (d : Declaration) (s : State), s.intakeReady = true →
    (∀ f : FlowId, d.flow.toNat = f.val → (s.flow f).state ≠ .free →
      exec (.declare d) s =
        .next { s with port := s.port.add s.stationTime (.directiveRefused .flowBusy d.flow 1#8) }) ∧
    (63 < d.flow.toNat →
      exec (.declare d) s =
        .next { s with port := s.port.add s.stationTime (.directiveRefused .badFlow d.flow 1#8) })

/-- R5: the thirteen checks in their order (check 8 accepts every W). The first that fails refuses the
DECLARE with its code and changes nothing but the outcome queue; where none fails, the declared values pass. -/
def Obligations.DeclareValidatedInOrder : Prop :=
  ∀ (d : Declaration) (f : FlowId) (s : State), s.intakeReady = true → d.flow.toNat = f.val →
    (s.flow f).state = .free →
    let pn := d.pn.toNat
    let pd := d.pd.toNat
    let n := d.n.toNat
    let a := d.a.toNat
    let t := d.t.toNat
    let limit := capacity s.straps.cap * 15 / 16
    let checks : List (Bool × DirectiveCode) :=
      [(decide (d.cls.toNat ≤ 2), .badClass),
       (decide (d.legs.toNat = 1 ∨ (s.straps.legb = true ∧ (d.legs.toNat = 2 ∨ d.legs.toNat = 3))), .badLegs),
       (decide (1 ≤ pn ∧ pn ≤ 2 ^ 40 - 1 ∧ 1 ≤ pd ∧ pd ≤ 1048575 ∧ 1000000 ≤ pn / pd ∧ pn / pd ≤ 1000000000),
         .badPeriod),
       (decide (1 ≤ n ∧ n ≤ 65535), .badCount),
       (decide (1 ≤ a ∧ a ≤ 4095 ∧ 1 ≤ t ∧ t ≤ 4095 ∧ a ≤ t ∧ (d.cls.toNat ≤ 1 → a = t)), .badRatio),
       (decide (d.o.toNat < pn / pd), .badOffset),
       (decide (1 ≤ d.bmax.toNat ∧ d.bmax.toNat ≤ 16), .badBurst),
       (decide (64 ≤ d.smax.toNat ∧ d.smax.toNat ≤ 2048), .badSize),
       (decide (1 ≤ d.u.toNat ∧ d.u.toNat ≤ 4), .badUnit),
       (decide (1 ≤ d.qmax.toNat ∧ d.qmax.toNat ≤ 1024), .badQueue),
       (decide (64 * (pd * t * n) ≤ pn * a), .badRate),
       (decide (n * d.u.toNat * (d.smax.toNat + 24) * 8000 * pd ≤ limit * pn), .loadTooLarge)]
    match checks.find? (fun c => !c.1) with
    | some (_, code) =>
      exec (.declare d) s =
        .next { s with port := s.port.add s.stationTime (.directiveRefused code d.flow 1#8) }
    | none =>
      ∃ p, validate s.straps d = .inr p ∧ p.pn = pn ∧ p.pd = pd ∧ p.n = n ∧ p.a = a ∧ p.t = t ∧
        p.o = d.o.toNat ∧ p.bmax = d.bmax.toNat ∧ p.w = d.w.toNat ∧ p.smax = d.smax.toNat ∧
        p.u = d.u.toNat ∧ p.qmax = d.qmax.toNat ∧ classOf d.cls = some p.cls ∧
        legsOf d.legs s.straps.legb = some p.legs

/-- R6, R147, R154: an accepted DECLARE writes the record, with its derived values, its counters 0 and the
cancel mark clear, and the Admission Unit acts on the flow at once by the station state. That the claim timer is held as
a deadline of the own clock is the model's (log 4). -/
def Obligations.AcceptedDeclareActsByStationState : Prop :=
  ∀ (d : Declaration) (f : FlowId) (s : State) (p : Params), s.intakeReady = true → d.flow.toNat = f.val →
    (s.flow f).state = .free → validate s.straps d = .inr p →
    let x := { s.flow f with
      state := .claimWait, params := p, derived := p.derive, cancel := false, counters := FlowCounters.zero }
    let freed := { x with state := .free, drain := none, lock := none, creditA := 0, creditB := 0 }
    let queued := { s.setFlow f x with adm := { s.adm with claimQueue := s.adm.claimQueue ++ [f] } }
    (s.view.station = .listenIn → exec (.declare d) s = .next queued) ∧
    (s.view.station = .active → s.adm.claiming ≠ none → exec (.declare d) s = .next queued) ∧
    (s.view.station = .active → s.adm.claiming = none → s.adm.claimQueue = [] →
      exec (.declare d) s = .next { s.setFlow f { x with state := .claiming } with
        adm := { s.adm with claiming := some f, claimTimer := some (s.ownClock + 500000000) }
        line := { s.line with sendList := addClaim p.legs.code p.load s.line.sendList } }) ∧
    (s.view.station = .isolated → exec (.declare d) s = .next { s.setFlow f freed with
      port := s.port.add s.stationTime (.flowRefused f .lineIsolated) }) ∧
    (s.view.station = .duplicate → exec (.declare d) s = .next { s.setFlow f freed with
      port := s.port.add s.stationTime (.flowRefused f .duplicateStation) }) ∧
    (s.view.station = .solo →
      if (p.legs.uses .a = true → s.legSum .a + p.load ≤ admissionLimit s.straps.cap) ∧
          (p.legs.uses .b = true → s.legSum .b + p.load ≤ admissionLimit s.straps.cap) then
        ∃ t, exec (.declare d) s = .next t ∧ t.flow f = { x with state := .armed } ∧
          (∀ g, g ≠ f → t.flow g = s.flow g) ∧
          (∀ l, t.adm.own l = s.adm.own l + if p.legs.uses l then p.load else 0) ∧
          t.port = s.port.add s.stationTime (.flowAdmitted f) ∧
          (s.line.sendList = [] → t.line = s.line) ∧
          t = { s with flows := t.flows, port := t.port, line := t.line,
                       adm := { s.adm with ownA := t.adm.ownA, ownB := t.adm.ownB } }
      else
        exec (.declare d) s = .next { s.setFlow f freed with
          port := s.port.add s.stationTime (.flowRefused f .noShare) })

/-- R11: CLOSE of an ARMED or RUNNING flow makes it DRAINING with the drain timer at 1 s and discards an
open run as one CLOSE_FLUSH; a flow that is then drained goes to FREE in the same event (R12). That the timer is held
as a deadline of the own clock is the model's (log 4). -/
def Obligations.CloseStartsTheDrain : Prop :=
  ∀ (flow : Byte) (f : FlowId) (s : State), s.intakeReady = true → flow.toNat = f.val →
    ((s.flow f).state = .armed ∨ (s.flow f).state = .running) →
    let x := s.flow f
    let y := { x with
      state := .draining, slot := .empty, drain := some (s.ownClock + 1000000000)
      counters := { x.counters with closeFlush := raise x.counters.closeFlush x.slot.units.length } }
    let store := match x.slot with
      | .opened u => s.store.release u
      | _ => s.store
    if x.intakeQ = [] ∧ x.queueA = [] ∧ x.queueB = [] then
      ∃ t, exec (.close flow) s = .next t ∧ s.FlowEnded t f .drained y ∧ t.store = store
    else exec (.close flow) s = .next { s.setFlow f y with store := store }

/-- R15, R157: CLOSE and ABANDON before admission. In CLAIM_WAIT the flow leaves the claim queue; in CLAIMING
with the CLAIM on the wire it takes the cancel mark; in CLAIMING otherwise the CLAIM is withdrawn and the next
flow is placed. FLOW_CLOSED carries WITHDRAWN. That the claim timer is held as a deadline of the own clock is the
model's (log 4). -/
def Obligations.CloseAndAbandonBeforeAdmission : Prop :=
  ∀ (c : Instr) (flow : Byte) (f : FlowId) (s : State), (c = .close flow ∨ c = .abandon flow) →
    s.intakeReady = true → flow.toNat = f.val →
    let x := s.flow f
    let freed := { x with state := .free, drain := none, lock := none, creditA := 0, creditB := 0 }
    let closed := s.port.add s.stationTime (.flowClosed f .withdrawn x.params.cls x.params.legs x.shownCounters)
    (x.state = .claimWait →
      exec c s = .next { s.setFlow f freed with
        adm := { s.adm with claimQueue := s.adm.claimQueue.filter (fun g => g != f) }, port := closed }) ∧
    (x.state = .claiming → x.cancel = false → s.line.claimOnWire = true →
      exec c s = .next (s.setFlow f { x with cancel := true })) ∧
    (x.state = .claiming → x.cancel = false → s.line.claimOnWire = false →
      let kept := s.line.sendList.filter (fun e => !e.notice.isClaim)
      ((s.view.station ≠ .active ∨ s.adm.claimQueue = []) →
        exec c s = .next { s.setFlow f freed with
          adm := { s.adm with claiming := none, claimTimer := none }
          line := { s.line with sendList := kept }, port := closed }) ∧
      ∀ (g : FlowId) (rest : List FlowId), s.view.station = .active → s.adm.claimQueue = g :: rest → g ≠ f →
        exec c s = .next { (s.setFlow f freed).setFlow g { s.flow g with state := .claiming } with
          adm := { s.adm with claimQueue := rest, claiming := some g,
                              claimTimer := some (s.ownClock + 500000000) }
          line := { s.line with
            sendList := addClaim (s.flow g).params.legs.code (s.flow g).derived.load kept }
          port := closed })

/-- R14: ABANDON of an ARMED, RUNNING or DRAINING flow discards its run and its units as CLOSE_FLUSH, a unit
in both leg queues counted once, and the flow goes to FREE with FLOW_CLOSED ABANDONED. -/
def Obligations.AbandonFlushesTheFlow : Prop :=
  ∀ (flow : Byte) (f : FlowId) (s : State), s.intakeReady = true → flow.toNat = f.val →
    ((s.flow f).state = .armed ∨ (s.flow f).state = .running ∨ (s.flow f).state = .draining) →
    let x := s.flow f
    let flushed := x.slot.units.length + x.intakeQ.length +
      (x.queueA.length + (x.queueB.filter (fun u => !x.queueA.contains u)).length)
    ∃ t, exec (.abandon flow) s = .next t ∧
      s.FlowEnded t f .abandoned { x with
        slot := .empty, intakeQ := [], queueA := [], queueB := []
        counters := { x.counters with closeFlush := raise x.counters.closeFlush flushed } } ∧
      t.store = (x.slot.units ++ x.intakeQ ++ x.queueA ++ x.queueB).foldl Store.release s.store

/-- R12, R13: a DRAINING flow with nothing left goes to FREE with FLOW_CLOSED DRAINED; one whose drain timer
runs out is flushed and goes to FREE with FLOW_CLOSED DRAIN_LIMIT, a unit in both leg queues counted once. That the
own clock stands at the deadline is the model's (log 4). -/
def Obligations.DrainsEnd : Prop :=
  ∀ (f : FlowId) (s : State), s.inReset = false → (s.flow f).state = .draining →
    let x := s.flow f
    (x.intakeQ = [] → x.queueA = [] → x.queueB = [] → x.slot.units = [] →
      ∃ t, exec (.drainComplete f) s = .next t ∧ s.FlowEnded t f .drained x ∧ t.store = s.store) ∧
    (∀ deadline, x.drain = some deadline →
      let flushed := x.slot.units.length + x.intakeQ.length +
        (x.queueA.length + (x.queueB.filter (fun u => !x.queueA.contains u)).length)
      ∃ t, exec (.drainLimit f) s = .next t ∧
        State.FlowEnded { s with ownClock := max s.ownClock deadline } t f .drainLimit { x with
          slot := .empty, intakeQ := [], queueA := [], queueB := []
          counters := { x.counters with closeFlush := raise x.counters.closeFlush flushed } } ∧
        t.store = (x.slot.units ++ x.intakeQ ++ x.queueA ++ x.queueB).foldl Store.release s.store)

/-! ## The Card Port -/

/-- R16, R144, R163: a query queues its reports and changes nothing else. QUERY_FLOW queues one FLOW_REPORT of the
flow as it stands; QUERY_STATION one STATION_REPORT; QUERY_PEERS a PEER_REPORT of each LIVE or STALE peer in
increasing order of number and then the end marker. That the drain time left is read off the model's own clock, as the
deadline held less the clock, is the model's (log 4). -/
def Obligations.QueriesReportAndChangeNothing : Prop :=
  (∀ (flow : Byte) (f : FlowId) (s : State), s.intakeReady = true → flow.toNat = f.val →
    let x := s.flow f
    let used (l : Leg) (n : Nat) : Nat := if x.params.legs.uses l then n else 0
    exec (.queryFlow flow) s = .next { s with
      port := s.port.add s.stationTime (.flowReport f
        { state := x.state, cancel := decide (x.state = .claiming) && x.cancel
          cls := x.params.cls, legs := x.params.legs, load := x.derived.load
          locked := x.lock.isSome, k := (x.lock.map Position.k).getD 0, j := (x.lock.map Position.j).getD 0
          creditA := used .a x.creditA, creditB := used .b x.creditB
          intake := x.intakeQ.length
          openRun := match x.slot with
            | .opened _ => true
            | _ => false
          queueA := used .a x.queueA.length, queueB := used .b x.queueB.length
          drainMs := if x.state = .draining then
              match x.drain with
              | some d => (d - s.ownClock + 999999) / 1000000
              | none => 0
            else 0
          counters := { x.counters with
            legA := if x.params.legs.uses .a then x.counters.legA else .zero
            legB := if x.params.legs.uses .b then x.counters.legB else .zero } }) }) ∧
  ∀ s : State, s.intakeReady = true →
    let leg (l : Leg) : Option LegReport :=
      if l = .b ∧ s.straps.legb = false then none
      else some { service := (s.leg l).service, phase := (s.leg l).hand.map Hand.phase,
                  counters := (s.leg l).counters }
    let peers := (List.finRange 16).filter (fun i => i != s.straps.stn && (s.peer i).state != .absent)
    let holding := (List.finRange 64).filter (fun f =>
      decide ((s.flow f).state = .armed ∨ (s.flow f).state = .running ∨ (s.flow f).state = .draining))
    exec .queryStation s = .next { s with
      port := s.port.add s.stationTime (.stationReport s.straps.stn
        { station := s.view.station, straps := s.straps, timeValid := s.time.valid
          freeCells := s.store.freeCells, legA := leg .a, legB := leg .b, line := s.line.counters
          stray := s.store.stray, badLength := s.store.badLength }) } ∧
    exec .queryPeers s = .next { s with
      port := (peers.map (fun i => Outcome.peerReport i (s.peer i)) ++
          [Outcome.peerEnd s.straps.stn s.view.station s.adm.ownA s.adm.ownB holding.length peers.length]).foldl
        (fun p o => p.add s.stationTime o) s.port }

/-- R160, R11, R14: a directive refused by the generic checks, or a CLOSE or ABANDON that finds no flow to act
on, is answered with its code and changes nothing but the outcome queue. That a BAD_LEG carries the leg field as
received where it holds no leg code is the model's choice (log 31). Intake-ready is given outside reset while the free
pool holds 8 cells or more (R39, R168); a record of the intake stream that is listed while it is withheld is not
taken, so it has no effect, as the model reads the rules (log 8). -/
def Obligations.RefusedDirectivesChangeNothing : Prop :=
  (∀ s : State, (s.intakeReady = true ↔ s.inReset = false ∧ 8 ≤ s.store.freeCells) ∧
    (s.intakeReady = false →
      ∀ (flow leg : Byte) (frameStart runOpen runClose : Bool) (bytes : List Byte) (d : Declaration),
      ∀ c ∈ [.packetArrival flow frameStart runOpen runClose bytes, .declare d, .close flow, .abandon flow,
        .queryFlow flow, .queryPeers, .queryStation, .legControlOut leg, .legControlIn leg, .unknownDirective bytes],
      exec c s = .next s)) ∧
  ∀ s : State, s.intakeReady = true →
    let refused (code : DirectiveCode) (subject directive : Byte) : Host.Outcome State Fault Refusal :=
      .next { s with port := s.port.add s.stationTime (.directiveRefused code subject directive) }
    (∀ body : List Byte,
      exec (.unknownDirective body) s = refused .unknownDirective 255#8 (body.head?.getD 0#8)) ∧
    (∀ leg : Byte, ¬ (leg = 1#8 ∨ (leg = 2#8 ∧ s.straps.legb = true)) →
      exec (.legControlOut leg) s = refused .badLeg leg 7#8 ∧
      exec (.legControlIn leg) s = refused .badLeg leg 7#8) ∧
    (∀ flow : Byte, 63 < flow.toNat →
      exec (.close flow) s = refused .badFlow flow 2#8 ∧ exec (.abandon flow) s = refused .badFlow flow 3#8 ∧
      exec (.queryFlow flow) s = refused .badFlow flow 4#8) ∧
    ∀ (flow : Byte) (f : FlowId), flow.toNat = f.val →
      ((s.flow f).state = .free →
        exec (.close flow) s = refused .notDeclared flow 2#8 ∧
        exec (.abandon flow) s = refused .notDeclared flow 3#8) ∧
      ((s.flow f).state = .draining → exec (.close flow) s = refused .closing flow 2#8) ∧
      ((s.flow f).state = .claiming → (s.flow f).cancel = true →
        exec (.close flow) s = refused .closing flow 2#8 ∧ exec (.abandon flow) s = refused .closing flow 3#8)

/-- R165-R167: the records created in one event join the queue one after another while it holds fewer than 64; a
record that finds 64 is dropped and sets the loss mark; the next record that joins carries LOST and clears the mark;
every other record carries LOST 0. A delivery begins with the head record and ends with the head leaving the queue,
the next one beginning where outcome-ready is present and a record waits (log 20). The attention line is asserted
exactly while the queue holds a record. -/
def Obligations.OutcomesJoinAndAreDelivered : Prop :=
  (∀ (p : Port) (time : Nat) (os : List Outcome), p.outcomes.length ≤ 64 →
    let q := os.foldl (fun x o => x.add time o) p
    let room := 64 - p.outcomes.length
    q.outcomes = p.outcomes ++
      (os.take room).zipIdx.map (fun (o, i) => ⟨p.lossMark && i == 0, time, o⟩) ∧
    q.lossMark = (if room < os.length then true else if os = [] then p.lossMark else false) ∧
    q.delivering = p.delivering) ∧
  ∀ s : State, s.inReset = false →
    (s.port.delivering = false → s.port.outcomes ≠ [] →
      exec .outcomeDeliveryStart s = .next { s with port := { s.port with delivering := true } }) ∧
    (∀ (r : Record) (rest : List Record) (ready : Bool), s.port.delivering = true →
      s.port.outcomes = r :: rest →
      s.onOutcomeStream = some r ∧
      exec (.outcomeDeliveryEnd ready) s = .next { s with
        port := { s.port with outcomes := rest, delivering := ready && !rest.isEmpty } }) ∧
    (s.attention = true ↔ s.port.outcomes ≠ []) ∧
    ∀ o : Outcome, (s.emit o).attention = true

/-! ## Station time -/

/-- R72, R73, R78: a strobe sets the step latch. The first valid reading after full reset sets the cursor and
is no step. An invalid reading in VALID makes the time INVALID with its record and nothing else; in INVALID it
queues nothing. Every reading gives each leg its signal, and moves the model's own clock by 32 ns (log 4). -/
def Obligations.TimePortWithoutCursorMoves : Prop :=
  ∀ (s : State) (value : BitVec 64), s.inReset = false →
    let ticked := { s with
      ownClock := s.ownClock + 32, legA := s.legA.signalled, legB := s.legB.signalled }
    exec .timeStepStrobe s = .next { s with time := { s.time with latch := true } } ∧
    (s.time.cursor = none → s.time.previous = none →
      exec (.timeReading true value) s = .next { ticked with
        time := { cursor := some (value.toNat / 32), previous := some value.toNat, latch := false,
                  valid := true } }) ∧
    (s.time.valid = false → exec (.timeReading false value) s = .next ticked) ∧
    (s.time.valid = true → exec (.timeReading false value) s = .next { ticked with
      time := { s.time with valid := false }
      port := s.port.add s.stationTime (.timeEvent .invalid) })

/-- R74: a valid reading in VALID with the step latch clear is judged by the first row that applies: 1 and 3
are implied steps, 2 is absorbed, 4 waits, 5 moves the cursor; the previous reading becomes x in every case. -/
def Obligations.ReadingsJudgedByRows : Prop :=
  ∀ (s : State) (value : BitVec 64) (c p : Nat), s.inReset = false → s.time.valid = true →
    s.time.latch = false → s.time.cursor = some c → s.time.previous = some p →
    let x := value.toNat
    ∃ t, exec (.timeReading true value) s = .next t ∧
      t.time.previous = some x ∧ t.time.valid = true ∧ t.time.latch = false ∧
      (if x + 32 ≤ 32 * c then
        t.time.cursor = some (x / 32) ∧ t.port = s.port.add (32 * (x / 32)) (.timeEvent .impliedStep)
      else if x < 32 * c then t.time.cursor = some c ∧ t.port = s.port ∧ t.flows = s.flows
      else if p + 32768 < x then
        t.time.cursor = some (x / 32) ∧ t.port = s.port.add (32 * (x / 32)) (.timeEvent .impliedStep)
      else if x / 32 = c then t.time.cursor = some c ∧ t.port = s.port ∧ t.flows = s.flows
      else c < x / 32 ∧ t.time.cursor = some (x / 32) ∧ t.port = s.port)

/-- R67, R76, R77: a reading that is a step, the first after INVALID or one that finds the latch set (code
STEP) or one of rows 1 and 3 (IMPLIED_STEP), sets every credit to 0, takes every LOCKED flow to UNLOCKED, a
RUNNING one to ARMED, and discards its leg queues as STEP, once for a unit in both. Intake queues, slots, hands,
the peer line and admission stay; the model's own clock moves by 32 ns (log 4). -/
def Obligations.StepClearsTheSchedule : Prop :=
  ∀ (s : State) (value : BitVec 64) (c p : Nat), s.inReset = false →
    s.time.cursor = some c → s.time.previous = some p →
    let x := value.toNat
    let explicit := s.time.valid = false ∨ s.time.latch = true
    (explicit ∨ x + 32 ≤ 32 * c ∨ (32 * c ≤ x ∧ p + 32768 < x)) →
    let code : TimeCode := if s.time.valid = false ∨ s.time.latch = true then .step else .impliedStep
    ∃ t, exec (.timeReading true value) s = .next t ∧
      t.time = { cursor := some (x / 32), previous := some x, latch := false, valid := true } ∧
      t.port = s.port.add (32 * (x / 32)) (.timeEvent code) ∧
      (∀ f, t.flow f =
        let y := s.flow f
        match y.lock with
        | none => { y with creditA := 0, creditB := 0 }
        | some _ => { y with
            creditA := 0, creditB := 0, lock := none, queueA := [], queueB := []
            state := if y.state = .running then .armed else y.state
            counters := { y.counters with
              step := raise y.counters.step
                (y.queueA.length + (y.queueB.filter (fun u => !y.queueA.contains u)).length) } }) ∧
      t.store = ((List.finRange 64).flatMap (fun f =>
        if (s.flow f).lock.isSome then (s.flow f).queueA ++ (s.flow f).queueB else [])).foldl
          Store.release s.store ∧
      t = { s with time := t.time, port := t.port, flows := t.flows, store := t.store
                   ownClock := s.ownClock + 32, legA := s.legA.signalled, legB := s.legB.signalled }

/-- R75: a reading that moves the cursor raises the credit of a locked flow on each leg it uses once for each
of its credit slots passed, up to Bmax, and changes nothing else of any flow; the model's own clock moves by
32 ns (log 4). -/
def Obligations.CursorMoveRaisesCredits : Prop :=
  ∀ (s : State) (value : BitVec 64) (c p : Nat), s.inReset = false → s.time.valid = true →
    s.time.latch = false → s.time.cursor = some c → s.time.previous = some p →
    let x := value.toNat
    32 * c ≤ x → x ≤ p + 32768 → c < x / 32 →
    ∃ t, exec (.timeReading true value) s = .next t ∧
      (∀ f, t.flow f =
        let y := s.flow f
        match y.lock with
        | some pos =>
          if y.state = .running ∨ y.state = .draining then
            let gained := y.params.creditSlots pos.lockFrame c (x / 32)
            { y with
              creditA := if y.params.legs.uses .a then min y.params.bmax (y.creditA + gained) else y.creditA
              creditB := if y.params.legs.uses .b then min y.params.bmax (y.creditB + gained) else y.creditB }
          else y
        | none => y) ∧
      t = { s with
        time := { s.time with cursor := some (x / 32), previous := some x }, flows := t.flows
        ownClock := s.ownClock + 32, legA := s.legA.signalled, legB := s.legB.signalled }

/-! ## Pacing arithmetic -/

/-- R27, R75: the closed form that counts the credit slots passed is the number of slots in c + 1 to c' that
hold an instant R(k,j) of the flow with k from the lock frame onward and j below N. -/
def Obligations.CreditSlotsCountTheInstants : Prop :=
  ∀ (p : Params) (first c c' : Nat), p.Paced → c ≤ c' →
    p.creditSlots first c c' =
      Set.ncard { slot : Nat | c < slot ∧ slot ≤ c' ∧
        ∃ k j, first ≤ k ∧ j < p.n ∧ (k * p.pn / p.pd + p.o + j * (p.pn * p.a) / (p.pd * p.t * p.n)) / 32 = slot }

/-- R21, R22: frame starts are floor(k × Pn / Pd) + O; equal periods with equal offsets give equal grids; each
frame lasts Pint or Pint + 1 ns, exactly Prem of any Pd frames in a row the longer; and the pair carried frame
by frame from any lock frame gives the same frame starts. -/
def Obligations.FrameGridIsCarriedExactly : Prop :=
  ∀ p : Params, 0 < p.pn → 0 < p.pd →
    (∀ k, p.frameStart k = k * p.pn / p.pd + p.o) ∧
    (∀ q : Params, 0 < q.pd → p.pn * q.pd = q.pn * p.pd → p.o = q.o → ∀ k, p.frameStart k = q.frameStart k) ∧
    (∀ k, p.frameStart (k + 1) - p.frameStart k =
      if p.pd ≤ k * p.pn % p.pd + p.pn % p.pd then p.pn / p.pd + 1 else p.pn / p.pd) ∧
    (∀ k, ((Finset.range p.pd).filter (fun i =>
      p.frameStart (k + i + 1) - p.frameStart (k + i) = p.pn / p.pd + 1)).card = p.pn % p.pd) ∧
    (∀ k m, let x := (Position.nextFrame p p.derive)^[m] (Position.atLock p k)
      x.k = k + m ∧ x.j = 0 ∧ x.q = (k + m) * p.pn / p.pd ∧ x.r = (k + m) * p.pn % p.pd ∧
        x.frameStart p = p.frameStart (k + m))

/-- R25: the instants of a flow that passes R5 stay inside the active part of the frame, leave its gap empty,
are at least 64 ns apart, and fall in slots at least two apart; without a gap the last instant of a frame lies
q_S to q_S + 2 ns before the next frame start. The offset rises by q_S or q_S + 1 with each j, q_S is at least 64,
and off(N−1) is at most (N−1) × S and at most Pint − 64. -/
def Obligations.InstantsKeepTheirDistance : Prop :=
  ∀ p : Params, p.Paced →
    64 ≤ p.sn / p.sd ∧
    (∀ j, p.offset (j + 1) = p.offset j + p.sn / p.sd ∨ p.offset (j + 1) = p.offset j + p.sn / p.sd + 1) ∧
    p.offset (p.n - 1) * p.sd ≤ (p.n - 1) * p.sn ∧
    p.offset (p.n - 1) + 64 ≤ p.pn / p.pd ∧
    (∀ k j, j < p.n → (p.instant k j - p.frameStart k) * (p.pd * p.t) < p.pn * p.a) ∧
    (∀ k k' j, j < p.n →
      ¬ (p.frameStart k * (p.pd * p.t) + p.pn * p.a ≤ p.instant k' j * (p.pd * p.t) ∧
         p.instant k' j < p.frameStart (k + 1))) ∧
    (p.a = p.t → ∀ k,
      p.instant k (p.n - 1) + p.sn / p.sd ≤ p.frameStart (k + 1) ∧
      p.frameStart (k + 1) ≤ p.instant k (p.n - 1) + p.sn / p.sd + 2) ∧
    (∀ k j, j + 1 < p.n → p.instant k j + 64 ≤ p.instant k (j + 1)) ∧
    (∀ k, p.instant k (p.n - 1) + 64 ≤ p.instant (k + 1) 0) ∧
    (∀ k j k' j', j < p.n → j' < p.n → (k < k' ∨ (k = k' ∧ j < j')) →
      slotOf (p.instant k j) + 2 ≤ slotOf (p.instant k' j'))

/-- R28: the lock frame is the ceiling the rule gives, held at 0 or more, and the first frame whose start lies
at least 8,000 ns ahead of now; a frame that starts before now lies before it. -/
def Obligations.LockFrameIsTheFirstAhead : Prop :=
  ∀ (p : Params) (now : Nat), 0 < p.pn → 0 < p.pd → p.o < p.pn / p.pd →
    let k := p.lockFrame now
    (k : ℤ) = max 0 ⌈(((now : ℤ) + 8000 - p.o) * p.pd : ℚ) / p.pn⌉ ∧
    now + 8000 ≤ p.frameStart k ∧
    (0 < k → p.frameStart (k - 1) < now + 8000) ∧
    p.frameStart k < now + 8000 + p.pn / p.pd + 1 ∧
    (now + 8000 ≤ p.o → k = 0) ∧
    (∀ i, p.frameStart i < now → i < k)

/-- R31, R32: the committed load is the ceiling the rule gives and at least 1; it does not depend on class,
legs, A, T, O, Bmax, W or Qmax; and the capacity and admission limit of each CAP code are the table's. -/
def Obligations.LoadAndCapacityFollowTheRules : Prop :=
  (∀ p : Params, 0 < p.pn → 0 < p.pd → 0 < p.n → 0 < p.u →
    (p.load : ℤ) = ⌈((p.n * p.u * (p.smax + 24) * 8000 * p.pd : ℕ) : ℚ) / p.pn⌉ ∧ 1 ≤ p.load) ∧
  (∀ p q : Params, p.n = q.n → p.u = q.u → p.smax = q.smax → p.pn = q.pn → p.pd = q.pd → p.load = q.load) ∧
  (List.finRange 8).map (fun cap => (capacity cap, admissionLimit cap)) =
    [(1000, 937), (2500, 2343), (5000, 4687), (10000, 9375), (25000, 23437), (40000, 37500), (50000, 46875),
     (100000, 93750)]

/-! ## The Binder -/

/-- R56-R58, R63-R65: the head of an UNLOCKED flow that may lock, any head of an ESSENCE flow or one with
FRAME_START, locks the flow at the lock frame and is bound there with the frame start as its due time. -/
def Obligations.LockBindsTheHead : Prop :=
  ∀ (f : FlowId) (s : State) (id now : Nat) (rest : List Nat), s.inReset = false →
    (s.flow f).intakeQ = id :: rest → s.now? = some now → (s.flow f).bindable = true →
    (s.flow f).lock = none → (s.flow f).Sound →
    ((s.flow f).params.cls = .essence ∨ s.unitFrameStart id = true) →
    let x := s.flow f
    let k := x.params.lockFrame now
    exec (.binderExamination f) s = .next { s.setFlow f { x with
        state := if x.state = .armed then .running else x.state
        lock := some (if 1 < x.params.n then
            { k := k, j := 1, q := k * x.params.pn / x.params.pd, r := k * x.params.pn % x.params.pd,
              off := x.params.sn / x.params.sd, rem := x.params.sn % x.params.sd, lockFrame := k }
          else
            { k := k + 1, j := 0, q := (k + 1) * x.params.pn / x.params.pd,
              r := (k + 1) * x.params.pn % x.params.pd, off := 0, rem := 0, lockFrame := k })
        intakeQ := rest
        creditA := 0
        creditB := 0
        queueA := if x.params.legs.uses .a then [id] else []
        queueB := if x.params.legs.uses .b then [id] else [] } with
      store := s.store.bind id (x.params.frameStart k) (if x.params.legs = .dual then 2 else 1)
      port := s.port.add s.stationTime (.flowLock f .locked k) }

/-- R57, R60: the head of a RASTER flow without FRAME_START is discarded, as a LOCK discard while the flow is
UNLOCKED and as a LONG_FRAME discard at j = 0, with its hold released and the position unchanged. -/
def Obligations.HeadsWithoutFrameStartDiscarded : Prop :=
  ∀ (f : FlowId) (s : State) (id now : Nat) (rest : List Nat), s.inReset = false →
    (s.flow f).intakeQ = id :: rest → s.now? = some now → (s.flow f).bindable = true →
    (s.flow f).params.cls ≠ .essence → s.unitFrameStart id = false →
    let x := s.flow f
    (x.lock = none →
      exec (.binderExamination f) s = .next { s.setFlow f { x with
          intakeQ := rest, counters := { x.counters with lockDiscard := bump x.counters.lockDiscard } } with
        store := s.store.release id }) ∧
    (∀ p, x.lock = some p → p.j = 0 →
      exec (.binderExamination f) s = .next { s.setFlow f { x with
          intakeQ := rest, counters := { x.counters with longFrame := bump x.counters.longFrame } } with
        store := s.store.release id })

/-- R22, R24, R63-R66, R90: a head that reaches the lateness step at the position p is discarded as LATE on every leg of
the flow when now − D exceeds W × 1,000, and otherwise bound: appended on each leg of the flow, a leg queue of
8 losing its oldest unit as LAG first. Either way the position advances: below N − 1 to (k, j + 1), the offset pair
carried by q_S and r_S; at N − 1 to (k + 1, 0), the base pair carried by Pint and Prem and the offset pair 0. -/
def Obligations.HeadsBoundOrLate : Prop :=
  ∀ (f : FlowId) (s : State) (id now : Nat) (rest : List Nat) (p : Position), s.inReset = false →
    (s.flow f).intakeQ = id :: rest → s.now? = some now → (s.flow f).bindable = true →
    (s.flow f).lock = some p →
    let x := s.flow f
    let frame := p.q + x.params.o
    let due := frame + p.off
    (if x.params.cls = .essence then ¬ (x.derived.wf : ℤ) < (now : ℤ) - due
     else if s.unitFrameStart id then p.j = 0 ∧ ¬ (x.derived.wf : ℤ) < (now : ℤ) - frame
     else p.j ≠ 0) →
    let next : Position :=
      if p.j + 1 < x.params.n then
        if p.rem + x.derived.rs < x.derived.sd then
          { p with j := p.j + 1, off := p.off + x.derived.qs, rem := p.rem + x.derived.rs }
        else
          { p with j := p.j + 1, off := p.off + x.derived.qs + 1, rem := p.rem + x.derived.rs - x.derived.sd }
      else if p.r + x.derived.prem < x.params.pd then
        { p with k := p.k + 1, j := 0, q := p.q + x.derived.pint, r := p.r + x.derived.prem, off := 0, rem := 0 }
      else
        { p with k := p.k + 1, j := 0, q := p.q + x.derived.pint + 1, r := p.r + x.derived.prem - x.params.pd,
                 off := 0, rem := 0 }
    let lagged (q : List Nat) : List Nat := if 8 ≤ q.length then q.take 1 else []
    let appended (l : Leg) (q : List Nat) : List Nat :=
      if x.params.legs.uses l then (if 8 ≤ q.length then q.tail else q) ++ [id] else q
    let lag (l : Leg) : Nat := if x.params.legs.uses l then (lagged (x.queue l)).length else 0
    if 0 < x.params.w ∧ (x.params.w * 1000 : ℤ) < (now : ℤ) - due then
      exec (.binderExamination f) s = .next { s.setFlow f { x with
          lock := some next
          intakeQ := rest
          counters := { x.counters with
            legA := if x.params.legs.uses .a then
              { x.counters.legA with late := bump x.counters.legA.late } else x.counters.legA
            legB := if x.params.legs.uses .b then
              { x.counters.legB with late := bump x.counters.legB.late } else x.counters.legB } } with
        legA := if x.params.legs.uses .a then
          { s.legA with counters := { s.legA.counters with lateTotal := bump s.legA.counters.lateTotal } } else s.legA
        legB := if x.params.legs.uses .b then
          { s.legB with counters := { s.legB.counters with lateTotal := bump s.legB.counters.lateTotal } } else s.legB
        store := s.store.release id }
    else
      ∃ t, exec (.binderExamination f) s = .next t ∧
        t.flow f = { x with
          lock := some next
          intakeQ := rest
          queueA := appended .a x.queueA
          queueB := appended .b x.queueB
          counters := { x.counters with
            legA := if lag .a = 0 then x.counters.legA
              else { x.counters.legA with lag := bump x.counters.legA.lag }
            legB := if lag .b = 0 then x.counters.legB
              else { x.counters.legB with lag := bump x.counters.legB.lag } } } ∧
        (∀ g, g ≠ f → t.flow g = s.flow g) ∧
        (∀ l, t.leg l = if lag l = 0 then s.leg l
          else { s.leg l with counters := { (s.leg l).counters with lagTotal := bump (s.leg l).counters.lagTotal } }) ∧
        t.store = ((if x.params.legs.uses .a then lagged x.queueA else []) ++
          (if x.params.legs.uses .b then lagged x.queueB else [])).foldl Store.release
            (s.store.bind id due (if x.params.legs = .dual then 2 else 1)) ∧
        t = { s with flows := t.flows, legA := t.legA, legB := t.legB, store := t.store }

/-- R59: a FRAME_START head at j ≠ 0 counts one SHORT_FRAME, moves the position to (k + 1, 0), and is then
taken on as the head at that position. -/
def Obligations.ShortFrameMovesToTheNext : Prop :=
  ∀ (f : FlowId) (s : State) (id now : Nat) (rest : List Nat) (p : Position), s.inReset = false →
    (s.flow f).intakeQ = id :: rest → s.now? = some now → (s.flow f).bindable = true →
    (s.flow f).Sound → (s.flow f).lock = some p → (s.flow f).params.cls ≠ .essence →
    s.unitFrameStart id = true → p.j ≠ 0 →
    let x := s.flow f
    exec (.binderExamination f) s = exec (.binderExamination f) (s.setFlow f { x with
      lock := some { k := p.k + 1, j := 0, q := (p.k + 1) * x.params.pn / x.params.pd,
                     r := (p.k + 1) * x.params.pn % x.params.pd, off := 0, rem := 0,
                     lockFrame := p.lockFrame }
      counters := { x.counters with shortFrame := bump x.counters.shortFrame } })

/-- R61, R62, R66: a frame start, or for ESSENCE any head, more than Wf behind now re-locks the flow: the
frames passed over are counted, the position is the new lock frame, the credits are 0, the leg queues are
emptied as LAG and FLOW_LOCK RELOCKED is queued; the head is then taken on at the new position. -/
def Obligations.RelockPassesOverFrames : Prop :=
  ∀ (f : FlowId) (s : State) (id now : Nat) (rest : List Nat) (p : Position), s.inReset = false →
    (s.flow f).intakeQ = id :: rest → s.now? = some now → (s.flow f).bindable = true →
    (s.flow f).Sound → s.HoldersExact → (s.flow f).lock = some p →
    let x := s.flow f
    (if x.params.cls = .essence then (x.derived.wf : ℤ) < (now : ℤ) - (p.q + x.params.o + p.off)
     else s.unitFrameStart id = true ∧ p.j = 0 ∧ (x.derived.wf : ℤ) < (now : ℤ) - (p.q + x.params.o)) →
    let k := x.params.lockFrame now
    let lagLeg (l : Leg) (c : LegCounts) : LegCounts :=
      if x.params.legs.uses l then { c with lag := raise c.lag (x.queue l).length } else c
    p.k < k ∧
    exec (.binderExamination f) s = exec (.binderExamination f) { s.setFlow f { x with
        lock := some { k := k, j := 0, q := k * x.params.pn / x.params.pd, r := k * x.params.pn % x.params.pd,
                       off := 0, rem := 0, lockFrame := k }
        creditA := 0
        creditB := 0
        queueA := []
        queueB := []
        counters := { x.counters with
          skipped := raise x.counters.skipped (k - p.k)
          legA := lagLeg .a x.counters.legA
          legB := lagLeg .b x.counters.legB } } with
      legA := if x.params.legs.uses .a then { s.legA with counters := { s.legA.counters with
        lagTotal := raise s.legA.counters.lagTotal x.queueA.length } } else s.legA
      legB := if x.params.legs.uses .b then { s.legB with counters := { s.legB.counters with
        lagTotal := raise s.legB.counters.lagTotal x.queueB.length } } else s.legB
      store := (x.queueA ++ x.queueB).foldl Store.release s.store
      port := s.port.add s.stationTime (.flowLock f .relocked k) }

/-! ## The Release Calendar and the legs -/

/-- R82-R84: the calendar names to a leg, while the time is VALID, the eligible entry with the earliest due
time, then the lower class rank, then the lower flow number; and it names one whenever one is eligible. -/
def Obligations.CalendarNamesTheEarliest : Prop :=
  ∀ (s : State) (l : Leg),
    let eligible (f : FlowId) (id due : Nat) : Prop :=
      s.time.valid = true ∧ (∃ c, s.time.cursor = some c ∧ due / 32 ≤ c) ∧
      (∃ rest, (s.flow f).queue l = id :: rest) ∧ s.unitDue id = some due ∧ 1 ≤ (s.flow f).credit l
    let key (f : FlowId) (due : Nat) : ℕ ×ₗ ℕ ×ₗ ℕ := toLex (due, toLex ((s.flow f).params.cls.rank, f.val))
    (∀ e, s.named l = some e →
      eligible e.flow e.unit e.due ∧
      ∀ f id due, f ≠ e.flow → eligible f id due → key e.flow e.due < key f due) ∧
    (s.named l = none → ∀ f id due, ¬ eligible f id due)

/-- R99-R101: an IDLE leg with its request open takes the unit named to it: it is discarded as LATE without
taking credit when now − D exceeds W × 1,000; otherwise a credit is taken, and an UP leg offers its first packet
while a DOWN or OUT leg sinks it. -/
def Obligations.NamedUnitOfferedSunkOrLate : Prop :=
  ∀ (s : State) (l : Leg) (e : Entry) (now : Nat), s.inReset = false → s.fitted l = true →
    s.freeze = false → (s.leg l).service ≠ .stalled → (s.leg l).request = true → (s.leg l).hand = none →
    s.named l = some e → s.now? = some now →
    let x := s.flow e.flow
    let y := s.leg l
    let dropped := x.setQueue l (x.queue l).tail
    let taken := dropped.setCredit l (x.credit l - 1)
    if 0 < x.params.w ∧ (x.params.w * 1000 : ℤ) < (now : ℤ) - e.due then
      exec (.calendarNamesEntry l) s = .next
        { (s.setFlow e.flow (dropped.countOn l (fun c => { c with late := bump c.late }))).setLeg l
            { y with counters := { y.counters with lateTotal := bump y.counters.lateTotal } } with
          store := s.store.release e.unit }
    else if y.service = .up then
      exec (.calendarNamesEntry l) s = .next ((s.setFlow e.flow taken).setLeg l
        { y with
          hand := some { unit := e.unit, index := 1, retries := 0, phase := .offering, detached := false }
          request := false })
    else
      exec (.calendarNamesEntry l) s = .next
        { (s.setFlow e.flow (taken.countOn l (fun c => { c with sink := bump c.sink }))).setLeg l
            { y with counters := { y.counters with sinkTotal := bump y.counters.sinkTotal } } with
          store := s.store.release e.unit }

/-- R83: no packet is offered on a leg before the start of the slot that holds its unit's due time. Whatever
command puts a unit into an empty hand, the time was VALID, the cursor had reached the slot of the unit's due
time, and a flow's credit on that leg was there to take. -/
def Obligations.NothingOfferedBeforeItsSlot : Prop :=
  ∀ (c : Instr) (s t : State) (l : Leg) (h : Hand), exec c s = .next t →
    (s.leg l).hand = none → (t.leg l).hand = some h →
    h.index = 1 ∧ s.time.valid = true ∧
    ∃ cursor due f rest, s.time.cursor = some cursor ∧ s.unitDue h.unit = some due ∧
      32 * (due / 32) ≤ 32 * cursor ∧ (s.flow f).queue l = h.unit :: rest ∧
      (t.flow f).credit l + 1 = (s.flow f).credit l

/-- R101, R105, R106: an open offer of a fitted leg presents to the MAC the bytes of the packet at the hand's index,
its unit's flow number, and CONTINUES on each packet but the last; an IDLE or waiting leg, and a leg that is not
fitted (R108), presents none. It stays as it is under every command but an answer of its own MAC and full reset. -/
def Obligations.OpenOfferPresentsItsPacket : Prop :=
  ∀ (s : State) (l : Leg), s.inReset = false →
    (s.fitted l = false → s.offer l = none) ∧
    (∀ (h : Hand) (u : Bundle) (bytes : List Byte), s.fitted l = true → (s.leg l).hand = some h →
      h.phase = .offering → s.store.find h.unit = some u → u.packets[h.index - 1]? = some bytes →
      s.offer l = some
        { bytes := bytes, flow := u.flow, continues := decide (h.index < u.packets.length) }) ∧
    ((s.leg l).hand = none → s.offer l = none) ∧
    (∀ (h : Hand) (signalled : Bool), (s.leg l).hand = some h → h.phase = .retryWait signalled → s.offer l = none) ∧
    ∀ (c : Instr) (t : State) (o : Offer), s.HoldersExact → exec c s = .next t → s.offer l = some o →
      c ≠ .take l → c ≠ .retry l → c ≠ .fault l → c ≠ .resetAssert →
      (∀ straps permitA permitB freeze, c ≠ .resetEnd straps permitA permitB freeze) →
      t.offer l = some o

/-- R102: TAKE of an open offer counts the packet and offers the next one with its retry count 0, or, after
the last, sends the unit: both counts of units sent rise, the flow's unless the unit is detached, the leg's hold
is released, and the leg is IDLE with its request open where serving is allowed. -/
def Obligations.TakeMovesOnOrSends : Prop :=
  ∀ (s : State) (l : Leg) (h : Hand) (u : Bundle), s.inReset = false → s.fitted l = true →
    (s.leg l).hand = some h → h.phase = .offering → s.store.find h.unit = some u →
    let y := s.leg l
    let taken := bump y.counters.packetsTaken
    if h.index < u.packets.length then
      exec (.take l) s = .next (s.setLeg l { y with
        hand := some { h with index := h.index + 1, retries := 0 }
        counters := { y.counters with packetsTaken := taken } })
    else
      exec (.take l) s = .next { (if h.detached then s else s.setFlow u.flow
          ((s.flow u.flow).countOn l (fun c => { c with sent := bump c.sent }))).setLeg l { y with
            hand := none
            request := !s.freeze && (y.service != .stalled)
            counters := { y.counters with
              packetsTaken := taken, unitsSent := bump y.counters.unitsSent } } with
        store := s.store.release h.unit }

/-- R103, R104: RETRY of an open offer below 3 retries waits for the next slot-boundary signal; a fourth RETRY, like
a FAULT, ends the unit as a FAULT discard. Flow counters do not rise for a detached unit. A reading of the time port,
valid or not, signals a leg in RETRY_WAIT, and the leg then offers the same packet again. That the signal is a flag of
the waiting leg is the model's (log 19). -/
def Obligations.RetriesAndFaultsOfAnOffer : Prop :=
  (∀ (s : State) (l : Leg) (h : Hand) (u : Bundle), s.inReset = false → s.fitted l = true →
    (s.leg l).hand = some h → h.phase = .offering → s.store.find h.unit = some u →
    let y := s.leg l
    let counted (g : LegCounts → LegCounts) : State :=
      if h.detached then s else s.setFlow u.flow ((s.flow u.flow).countOn l g)
    let ended (counters : LegTotals) : EgressLeg := { y with
      hand := none, request := !s.freeze && (y.service != .stalled), counters := counters }
    (h.retries < 3 →
      exec (.retry l) s = .next ((counted (fun c => { c with retries := bump c.retries })).setLeg l { y with
        hand := some { h with retries := h.retries + 1, phase := .retryWait false }
        counters := { y.counters with retries := bump y.counters.retries } })) ∧
    (3 ≤ h.retries →
      exec (.retry l) s = .next
        { (counted (fun c => { c with retries := bump c.retries, fault := bump c.fault })).setLeg l
            (ended { y.counters with
              retries := bump y.counters.retries, faults := bump y.counters.faults }) with
          store := s.store.release h.unit }) ∧
    exec (.fault l) s = .next
      { (counted (fun c => { c with fault := bump c.fault })).setLeg l
          (ended { y.counters with faults := bump y.counters.faults }) with
        store := s.store.release h.unit }) ∧
  ∀ (s : State) (l : Leg) (h : Hand) (signalled : Bool), s.inReset = false → s.fitted l = true →
    (s.leg l).hand = some h → h.phase = .retryWait signalled →
    (∀ (valid : Bool) (value : BitVec 64), ∃ t, exec (.timeReading valid value) s = .next t ∧
      t.leg l = { s.leg l with hand := some { h with phase := .retryWait true } }) ∧
    (signalled = true → exec (.retryReoffer l) s =
      .next (s.setLeg l { s.leg l with hand := some { h with phase := .offering } }))

/-- R105: an answer while the leg has no open offer, IDLE or in RETRY_WAIT, counts one STRAY_ANSWER and
changes nothing else. -/
def Obligations.StrayAnswersOnlyCounted : Prop :=
  ∀ (c : Instr) (s : State) (l : Leg), (c = .take l ∨ c = .retry l ∨ c = .fault l) →
    s.inReset = false → s.fitted l = true → (s.leg l).offering = false →
    exec c s = .next (s.setLeg l { s.leg l with
      counters := { (s.leg l).counters with strayAnswer := bump (s.leg l).counters.strayAnswer } })

/-- R92 (with R93, R96, R98): the rows of the service states for the permit line and the stall timer, each with
its LEG_EVENT, its timer and the request of an IDLE leg. That the own clock stands at the deadline when the stall
timer runs out is the model's (log 4). Leg A is always fitted, and leg B by the LEGB strap; where it is not, its permit
and answer lines are not read, its offer lines are idle, and no event of a leg's own has any effect on it (R108). -/
def Obligations.ServiceFollowsPermitAndTimer : Prop :=
  (∀ s : State, s.fitted .a = true ∧ (s.fitted .b = true ↔ s.straps.legb = true) ∧
    (s.straps.legb = false → s.offer .b = none ∧ s.requestOpen .b = false ∧
      ∀ c ∈ [.permitFall .b, .permitRise .b, .stallTimeout .b, .take .b, .retry .b, .fault .b, .retryReoffer .b,
        .calendarNamesEntry .b], exec c s = .next s)) ∧
  ∀ (s : State) (l : Leg), s.inReset = false → s.fitted l = true →
    let y := s.leg l
    let report (code : LegCode) : Port := s.port.add s.stationTime (.legEvent l code)
    let open' := y.hand.isNone && !s.freeze
    (y.permit = true → y.service = .up → exec (.permitFall l) s = .next { s.setLeg l { y with
      service := .stalled, permit := false, stall := some (s.ownClock + 10000000), request := false } with
      port := report .stalled }) ∧
    (y.permit = true → y.service = .out →
      exec (.permitFall l) s = .next (s.setLeg l { y with permit := false })) ∧
    (y.permit = false → y.service = .stalled ∨ y.service = .down →
      exec (.permitRise l) s = .next { s.setLeg l { y with
        service := .up, permit := true, stall := none, request := open' } with port := report .up }) ∧
    (y.permit = false → y.service = .out →
      exec (.permitRise l) s = .next (s.setLeg l { y with permit := true })) ∧
    (∀ deadline, y.service = .stalled → y.stall = some deadline →
      exec (.stallTimeout l) s = .next { s.setLeg l { y with
        service := .down, stall := none, request := open' } with
        ownClock := max s.ownClock deadline, port := report .down })

/-- R94, R95: LEG_CONTROL OUT makes a fitted leg OUT and stops its stall timer; IN returns an OUT leg to UP or
STALLED by its permit level; either is answered with its LEG_EVENT, also where it changes nothing. That the stall timer
is held as a deadline of the own clock is the model's (log 4). -/
def Obligations.LegControlOutAndIn : Prop :=
  ∀ (leg : Byte) (l : Leg) (s : State), s.intakeReady = true →
    (leg = 1#8 ∧ l = .a ∨ leg = 2#8 ∧ l = .b ∧ s.straps.legb = true) →
    let y := s.leg l
    let report (code : LegCode) : Port := s.port.add s.stationTime (.legEvent l code)
    let open' := y.hand.isNone && !s.freeze
    (y.service ≠ .out → exec (.legControlOut leg) s = .next { s.setLeg l { y with
      service := .out, stall := none, request := open' } with port := report .out }) ∧
    (y.service = .out → exec (.legControlOut leg) s = .next { s with port := report .out }) ∧
    (y.service ≠ .out → exec (.legControlIn leg) s = .next { s with port := report .into }) ∧
    (y.service = .out → y.permit = true → exec (.legControlIn leg) s = .next { s.setLeg l { y with
      service := .up, stall := none, request := open' } with port := report .into }) ∧
    (y.service = .out → y.permit = false → exec (.legControlIn leg) s = .next { s.setLeg l { y with
      service := .stalled, stall := some (s.ownClock + 10000000), request := false } with
      port := report .into })

/-- R97: a rise of the freeze line withdraws the request of every fitted leg and a fall opens that of an IDLE
leg whose service state allows serving; units in hand and everything else stay. -/
def Obligations.FreezeSuspendsServing : Prop :=
  ∀ s : State, s.inReset = false →
    (∃ t, exec .freezeRise s = .next t ∧
      (∀ l, s.fitted l = true → t.leg l = { s.leg l with request := false }) ∧
      (s.fitted .b = false → t.legB = s.legB) ∧
      t = { s with freeze := true, legA := t.legA, legB := t.legB }) ∧
    ∃ t, exec .freezeFall s = .next t ∧
      (∀ l, s.fitted l = true → t.leg l = { s.leg l with
        request := (s.leg l).hand.isNone && ((s.leg l).service != .stalled) }) ∧
      (s.fitted .b = false → t.legB = s.legB) ∧
      t = { s with freeze := false, legA := t.legA, legB := t.legB }

/-! ## Intake and the Cell Store -/

/-- R36, R37, R49: the tests of an arriving packet in their order: a length outside 64 to 2048 counts
BAD_LENGTH, a flow that does not accept intake counts STRAY, and a packet longer than Smax counts OVERSIZE and
ends the run in its flow's slot; none takes a cell. -/
def Obligations.PacketsJudgedInOrder : Prop :=
  ∀ (flow : Byte) (frameStart runOpen runClose : Bool) (bytes : List Byte) (s : State),
    s.intakeReady = true →
    let arrival := exec (.packetArrival flow frameStart runOpen runClose bytes) s
    let accepts (f : FlowId) : Prop := (s.flow f).state = .armed ∨ (s.flow f).state = .running
    (¬ (64 ≤ bytes.length ∧ bytes.length ≤ 2048) →
      arrival = .next { s with store := { s.store with badLength := bump s.store.badLength } }) ∧
    (64 ≤ bytes.length → bytes.length ≤ 2048 → (∀ f : FlowId, flow.toNat = f.val → ¬ accepts f) →
      arrival = .next { s with store := { s.store with stray := bump s.store.stray } }) ∧
    (∀ f : FlowId, 64 ≤ bytes.length → bytes.length ≤ 2048 → flow.toNat = f.val → accepts f →
      (s.flow f).params.smax < bytes.length →
      let x := s.flow f
      arrival = .next { s.setFlow f { x with
          slot := .empty
          counters := { x.counters with
            oversize := bump x.counters.oversize
            runMalformed := match x.slot with
              | .opened _ => bump x.counters.runMalformed
              | _ => x.counters.runMalformed } } with
        store := match x.slot with
          | .opened u => s.store.release u
          | _ => s.store })

/-- R38, R42-R48: an accepted packet takes ceil(b / 256) cells. At an EMPTY slot, while the intake count is below
Qmax, it is a unit of its own or, with RUN_OPEN at U above 1, opens a run that RUN_CLOSE closes; at an OPEN slot with
fewer than U packets it joins the run. A closed run joins the intake queue. What the Qmax cap refuses counts
INTAKE_OVER and takes no cell, and a refused run keeps its framing to its RUN_CLOSE or its (U + 1)th packet; a packet
beyond U makes an open run malformed; a RUN_OPEN first ends the run in the slot, and is then taken as at an EMPTY
slot. The numbers of the units are the model's own (log 15). -/
def Obligations.PacketsFormUnitsAndRuns : Prop :=
  (∀ (flow : Byte) (f : FlowId) (frameStart runOpen runClose : Bool) (bytes : List Byte) (s : State),
    s.intakeReady = true → flow.toNat = f.val →
    ((s.flow f).state = .armed ∨ (s.flow f).state = .running) →
    64 ≤ bytes.length → bytes.length ≤ 2048 → bytes.length ≤ (s.flow f).params.smax →
    let x := s.flow f
    let arrival := exec (.packetArrival flow frameStart runOpen runClose bytes) s
    let cells := (bytes.length + 255) / 256
    let id := s.store.nextId
    let started : Store := { s.store with
      freeCells := s.store.freeCells - cells
      units := s.store.units ++ [{ id := id, flow := f, packets := [bytes], frameStart := frameStart,
                                   holders := 1, due := none }]
      nextId := id + 1 }
    (x.slot = .empty → x.intakeQ.length < x.params.qmax →
      arrival = .next { (if runOpen ∧ ¬ runClose ∧ x.params.u ≠ 1 then s.setFlow f { x with slot := .opened id }
        else s.setFlow f { x with intakeQ := x.intakeQ ++ [id] }) with store := started }) ∧
    (∀ run u, x.slot = .opened run → s.store.find run = some u → x.params.u ≠ 1 → runOpen = false →
      u.packets.length < x.params.u →
      let joined : Store := { s.store with
        freeCells := s.store.freeCells - cells
        units := updateFirst (fun v => v.id == run) (fun v => { v with packets := v.packets ++ [bytes] })
          s.store.units }
      arrival = .next { (if runClose then s.setFlow f { x with slot := .empty, intakeQ := x.intakeQ ++ [run] }
        else s) with store := joined })) ∧
  ∀ (flow : Byte) (f : FlowId) (frameStart runOpen runClose : Bool) (bytes : List Byte) (s : State),
    s.intakeReady = true → flow.toNat = f.val →
    ((s.flow f).state = .armed ∨ (s.flow f).state = .running) →
    64 ≤ bytes.length → bytes.length ≤ 2048 → bytes.length ≤ (s.flow f).params.smax →
    let x := s.flow f
    let arrival (t : State) := exec (.packetArrival flow frameStart runOpen runClose bytes) t
    let counted := { x with counters := { x.counters with intakeOver := bump x.counters.intakeOver } }
    let broken := { x with
      slot := .empty, counters := { x.counters with runMalformed := bump x.counters.runMalformed } }
    (x.slot = .empty → x.params.qmax ≤ x.intakeQ.length →
      arrival s = .next (s.setFlow f { counted with
        slot := if runOpen ∧ ¬ runClose ∧ x.params.u ≠ 1 then .refused 1 else .empty })) ∧
    (∀ n, x.slot = .refused n → runOpen = false → x.params.u ≠ 1 →
      arrival s = .next (s.setFlow f { counted with
        slot := if runClose = true ∨ x.params.u < n + 1 then .empty else .refused (n + 1) })) ∧
    (∀ run u, x.slot = .opened run → s.store.find run = some u → x.params.u ≠ 1 → runOpen = false →
      x.params.u ≤ u.packets.length →
      arrival s = .next { s.setFlow f broken with store := s.store.release run }) ∧
    (runOpen = true → x.params.u ≠ 1 →
      (∀ run, x.slot = .opened run →
        arrival s = arrival { s.setFlow f broken with store := s.store.release run }) ∧
      ∀ n, x.slot = .refused n → arrival s = arrival (s.setFlow f { x with slot := .empty }))

/-! ## The peer line -/

/-- R112, R113, R117, R123, R127: at its free point a station in LISTEN_IN or ACTIVE starts its pending break
first, and otherwise the notice of the head entry with the entry's content as it stands, the entry being marked as
on the wire; before its free point it starts neither. In ISOLATED and DUPLICATE nothing is started, and in SOLO no
event of the line has any effect, no notice being sent there. The recessive bit times seen come with the command, and a start
begins the counts anew (log 9). -/
def Obligations.StartsWaitForTheFreePoint : Prop :=
  (∀ (s : State) (recessive : Nat), s.inReset = false →
    (s.view.station = .listenIn ∨ s.view.station = .active) →
    s.line.sending = none → s.line.driving = false →
    (s.line.receiver = .hunt ∨ s.line.receiver = .waitFree) →
    let free := match s.line.freePoint with
      | .normal => 12
      | .later => 16
    (recessive < free → exec (.noticeStart recessive) s = .next s ∧ exec (.breakStart recessive) s = .next s) ∧
    (free ≤ recessive → s.line.pendingBreak = true →
      exec (.noticeStart recessive) s = .next s ∧
      exec (.breakStart recessive) s = .next { s with
        line := { s.line with
          receiver := .hunt, driving := true, freePoint := .normal, bodyLoss := false, bits := ⟨0, 0⟩ } }) ∧
    (∀ (e : SendEntry) (es : List SendEntry), free ≤ recessive → s.line.pendingBreak = false →
      s.line.sendList = e :: es →
      exec (.noticeStart recessive) s = .next { s with
        line := { s.line with
          receiver := .hunt, sending := some e.notice
          sendList := { e with onWire := true, changed := false } :: es
          freePoint := .normal, bodyLoss := false, bits := ⟨0, 0⟩ } })) ∧
  (∀ (s : State) (recessive : Nat), (s.view.station = .isolated ∨ s.view.station = .duplicate) →
    exec (.noticeStart recessive) s = .next s ∧ exec (.breakStart recessive) s = .next s) ∧
  ∀ (s : State) (recessive : Nat) (value : Byte) (mark : Bool), s.view.station = .solo →
    (∀ c ∈ [.noticeStart recessive, .breakStart recessive, .characterReceived value mark, .noticeReceived value,
      .unknownHeader value, .framingError, .wireFree, .breakComplete mark, .breakHeard, .stuckLine, .wireRestored],
      exec c s = .next s) ∧
    (s.line.sending = none → exec .arbitrationLoss s = .next s ∧ exec .noticeComplete s = .next s)

/-- R115, R118, R119: losing arbitration counts one loss and leaves every entry pending with its whole content
(a CLAIM whose flow carries the cancel mark apart); completing counts one notice sent and sets the free point to
16, and the entry leaves the list, or, changed while on the wire, stays pending with the YIELD amount added since
or the newest LOAD. Whether a loss falls in the header is read off the receiver (log 10), and a saturated YIELD
keeps its amount less the amount sent (log 12). That a loss leaves the counts of bit times as they were, and what they
are at a completion, is the model's (log 9). -/
def Obligations.OwnNoticesLeaveTheWire : Prop :=
  ∀ (s : State) (n : Notice) (before : List SendEntry) (e : SendEntry) (after : List SendEntry),
    s.inReset = false → s.line.sending = some n → s.line.sendList = before ++ e :: after → e.onWire = true →
    (∀ x ∈ before ++ after, x.onWire = false) →
    let inHeader := match s.line.receiver with
      | .inNotice _ => false
      | _ => true
    ((n.isClaim = true → ∀ f, s.adm.claiming = some f → (s.flow f).cancel = false) →
      exec .arbitrationLoss s = .next { s with line := { s.line with
        sending := none, sendList := before ++ { e with onWire := false, changed := false } :: after
        freePoint := .normal, bodyLoss := !inHeader
        counters := { s.line.counters with losses := bump s.line.counters.losses } } }) ∧
    (n.isClaim = false → exec .noticeComplete s = .next { s with line := { s.line with
      sending := none, freePoint := .later, receiver := .hunt, bodyLoss := false, bits := ⟨0, 0⟩
      sendList := before ++ (if e.changed then
          { notice := (match e.notice, n with
              | .yield m x, .yield _ y => .yield m (x - y)
              | held, _ => held)
            onWire := false, changed := false } :: after
        else after)
      counters := { s.line.counters with noticesSent := bump s.line.counters.noticesSent } } })

/-- R33, R118, R137, R148, R150, R151, R157: at the completion of the own CLAIM the capacity test on each leg of its
flow decides. Without the cancel mark L is added, a pending LOAD is brought up to date and the flow is ARMED with
FLOW_ADMITTED, or it is FREE with FLOW_REFUSED NO_SHARE. With the mark it is FREE with FLOW_CLOSED WITHDRAWN, a YIELD
following a claim that stood, and so it is when the CLAIM loses arbitration. The claim timer stops, and the oldest
flow that waits is placed in the same event: it is CLAIMING, with its CLAIM on the list and the claim timer at 500 ms.
Whether a loss falls in the header is read off the receiver, and a completion needs no listed read-back characters
(log 10). That a loss leaves the counts of bit times as they were, and what they are at a completion, is the model's
(log 9), and so is the claim timer as a deadline of the own clock (log 4). -/
def Obligations.OwnClaimDecidedByTheTest : Prop :=
  ∀ (s : State) (f : FlowId) (m x : Nat) (before : List SendEntry) (e : SendEntry) (after : List SendEntry),
    s.inReset = false → s.view.station = .active → s.adm.claiming = some f → f ∉ s.adm.claimQueue →
    s.line.sending = some (.claim m x) → s.line.sendList = before ++ e :: after →
    e.notice = .claim m x → e.onWire = true → e.changed = false →
    (∀ d ∈ before ++ after, d.onWire = false ∧ d.notice.isClaim = false) →
    let y := s.flow f
    let freed := { y with state := .free, drain := none, lock := none, creditA := 0, creditB := 0 }
    let others := before ++ after
    let completed (list : List SendEntry) : Line := { s.line with
      sending := none, freePoint := .later, receiver := .hunt, bodyLoss := false, bits := ⟨0, 0⟩, sendList := list
      counters := { s.line.counters with noticesSent := bump s.line.counters.noticesSent } }
    let sum (l : Leg) : Nat := s.adm.own l +
      ((List.finRange 16).map (fun i => if i = s.straps.stn then 0 else
        match l with
        | .a => (s.peer i).loadA
        | .b => (s.peer i).loadB)).sum
    let stands := (y.params.legs.uses .a = true → sum .a + y.derived.load ≤ admissionLimit s.straps.cap) ∧
      (y.params.legs.uses .b = true → sum .b + y.derived.load ≤ admissionLimit s.straps.cap)
    let ended := { s.adm with claiming := none, claimTimer := none }
    let withdrawn := s.port.add s.stationTime (.flowClosed f .withdrawn y.params.cls y.params.legs y.shownCounters)
    let ownA := if y.params.legs.uses .a then s.adm.ownA + y.derived.load else s.adm.ownA
    let ownB := if y.params.legs.uses .b then s.adm.ownB + y.derived.load else s.adm.ownB
    let count := ((List.finRange 64).filter (fun g => decide (g = f) || (s.flow g).holdsLoad)).length
    let placed (u : State) : State :=
      match s.adm.claimQueue with
      | [] => u
      | g :: rest => { u.setFlow g { s.flow g with state := .claiming } with
          adm := { u.adm with
            claimQueue := rest, claiming := some g, claimTimer := some (s.ownClock + 500000000) }
          line := { u.line with
            sendList := addClaim (s.flow g).params.legs.code (s.flow g).derived.load u.line.sendList } }
    (y.cancel = false → stands →
      exec .noticeComplete s = .next (placed { s.setFlow f { y with state := .armed } with
        line := completed (if others.any (fun d => d.notice.isLoad) then addLoad ownA ownB count others else others)
        adm := { ended with ownA := ownA, ownB := ownB }
        port := s.port.add s.stationTime (.flowAdmitted f) })) ∧
    (y.cancel = false → ¬ stands →
      exec .noticeComplete s = .next (placed { s.setFlow f freed with
        line := completed others, adm := ended, port := s.port.add s.stationTime (.flowRefused f .noShare) })) ∧
    (y.cancel = true → stands →
      exec .noticeComplete s = .next (placed { s.setFlow f freed with
        line := completed (addYield y.params.legs.code y.derived.load others), adm := ended, port := withdrawn })) ∧
    (y.cancel = true → ¬ stands →
      exec .noticeComplete s = .next (placed { s.setFlow f freed with
        line := completed others, adm := ended, port := withdrawn })) ∧
    (y.cancel = true →
      exec .arbitrationLoss s = .next (placed { s.setFlow f freed with
        line := { s.line with
          sending := none, freePoint := .normal, sendList := others
          bodyLoss := match s.line.receiver with
            | .inNotice _ => true
            | _ => false
          counters := { s.line.counters with losses := bump s.line.counters.losses } }
        adm := ended, port := withdrawn }))

/-- R118-R121: characters at the receiver, and the ends of framing. A header begins a notice, an unknown one counts a
format error, a mark-0 character is ignored in HUNT and collected in a notice, WAIT_FREE takes none. A mark-1
character inside a notice counts a format error for the partial notice, and a second one where it is itself of unknown
kind. A sending station takes its own characters so as they are read back, and its own notice at its full length is
neither judged nor delivered. A framing error discards and waits for the wire, and a free wire ends a notice short; a
loss inside the character is then no duplicate detection. Neither occurs while the station drives the wire (log 1),
and a free wire of an ISOLATED station is another event (log 24). The events CHARACTER_RECEIVED, NOTICE_RECEIVED and
UNKNOWN_HEADER are judged alike (log 11). The counts of bit times stand as each event leaves them (log 9). -/
def Obligations.CharactersAreFramed : Prop :=
  ∀ (s : State) (value : Byte), s.inReset = false → s.view.station ≠ .solo →
    let lined (r : Receiver) (counters : LineCounters) : Host.Outcome State Fault Refusal :=
      .next { s with line := { s.line with
        receiver := r, counters := counters, freePoint := .normal, bodyLoss := false, bits := ⟨0, 0⟩ } }
    let freed (counters : LineCounters) : Host.Outcome State Fault Refusal :=
      .next { s with line := { s.line with
        receiver := .hunt, counters := counters, bodyLoss := false, bits := ⟨12, 0⟩ } }
    let format := { s.line.counters with formatErrors := bump s.line.counters.formatErrors }
    let format2 := { s.line.counters with formatErrors := bump (bump s.line.counters.formatErrors) }
    let known := value.toNat / 16 = 2 ∨ value.toNat / 16 = 5 ∨ value.toNat / 16 = 9
    let quiet := s.line.sending = none ∧ s.line.driving = false
    (s.line.receiver = .waitFree → ∀ mark,
      exec (.characterReceived value mark) s = .next s ∧ exec (.noticeReceived value) s = .next s ∧
      exec (.unknownHeader value) s = .next s) ∧
    (s.line.receiver = .hunt → s.line.bodyLoss = false →
      exec (.characterReceived value false) s = lined .hunt s.line.counters ∧
      exec (.noticeReceived value) s = lined .hunt s.line.counters ∧
      (known → exec (.characterReceived value true) s = lined (.inNotice [value]) s.line.counters) ∧
      (¬ known → exec (.unknownHeader value) s = lined .hunt format ∧
        exec (.characterReceived value true) s = lined .hunt format)) ∧
    (∀ (h : Byte) (cs : List Byte), s.line.receiver = .inNotice (h :: cs) →
      (h.toNat / 16 = 2 ∨ h.toNat / 16 = 5 ∨ h.toNat / 16 = 9) → s.line.bodyLoss = false →
      let length := if h.toNat / 16 = 9 then 9 else 6
      (cs.length + 2 < length →
        exec (.characterReceived value false) s = lined (.inNotice (h :: cs ++ [value])) s.line.counters ∧
        exec (.noticeReceived value) s = lined (.inNotice (h :: cs ++ [value])) s.line.counters) ∧
      (s.line.sending ≠ none → cs.length + 2 = length →
        exec (.characterReceived value false) s = lined .hunt s.line.counters ∧
        exec (.noticeReceived value) s = lined .hunt s.line.counters) ∧
      (known → exec (.characterReceived value true) s = lined (.inNotice [value]) format) ∧
      (¬ known → exec (.unknownHeader value) s = lined .hunt format2 ∧
        exec (.characterReceived value true) s = lined .hunt format2)) ∧
    (quiet → s.view.station ≠ .isolated →
      (s.line.receiver = .waitFree ∨ s.line.receiver = .hunt → exec .wireFree s = freed s.line.counters) ∧
      ∀ cs, s.line.receiver = .inNotice cs → exec .wireFree s = freed format) ∧
    (quiet → s.line.receiver ≠ .waitFree → exec .framingError s =
      lined .waitFree { s.line.counters with framingErrors := bump s.line.counters.framingErrors }) ∧
    (s.line.receiver = .waitFree → exec .framingError s = .next s) ∧
    (¬ quiet → exec .wireFree s = .next s ∧ exec .framingError s = .next s) ∧
    (s.view.station = .isolated → exec .wireFree s = .next s)

/-- R122, R132-R135: the last character of a notice brings it to its judgement. A sum that is not 0 modulo 256
counts a check error and a leg mask outside 1 to 3 a format error; a valid notice of another station makes its
sender's entry LIVE at age 0, with PEER_EVENT JOINED if it was ABSENT, and its content is applied to that entry
alone: a LOAD overwrites, a CLAIM that passes adds, a YIELD subtracts, each load kept in 0 to C. The counts of bit times
stand as the event leaves them (log 9). -/
def Obligations.ReceivedNoticesApplied : Prop :=
  ∀ (s : State) (cs : List Byte) (last : Byte) (n : Notice) (i : StationId), s.inReset = false →
    s.view.station ≠ .solo → s.line.sending = none → s.line.bodyLoss = false →
    s.line.receiver = .inNotice cs → readNotice (cs ++ [last]) = some n → cs.head?.map senderOf = some i →
    let judged (counters : LineCounters) : Host.Outcome State Fault Refusal :=
      .next { s with line := { s.line with
        receiver := .hunt, freePoint := .normal, bits := ⟨0, 0⟩, counters := counters } }
    ((cs ++ [last]).sum ≠ 0#8 → exec (.noticeReceived last) s =
      judged { s.line.counters with checkErrors := bump s.line.counters.checkErrors }) ∧
    ((cs ++ [last]).sum = 0#8 → n.maskOk = false → exec (.noticeReceived last) s =
      judged { s.line.counters with formatErrors := bump s.line.counters.formatErrors }) ∧
    ((cs ++ [last]).sum = 0#8 → n.maskOk = true → i ≠ s.straps.stn →
      let old := s.peer i
      let c := capacity s.straps.cap
      let e : PeerEntry :=
        if old.state = .absent then ⟨.live, 0, 0, 0, 0⟩ else { old with state := .live, age := 0 }
      let held := s.setPeer i e
      let applied : PeerEntry :=
        match n with
        | .load a b count => { e with loadA := min a c, loadB := min b c, count := min count 64 }
        | .claim mask x =>
          if (maskNames mask .a = true → held.legSum .a + x ≤ admissionLimit s.straps.cap) ∧
             (maskNames mask .b = true → held.legSum .b + x ≤ admissionLimit s.straps.cap) then
            { e with loadA := if maskNames mask .a then min (e.loadA + x) c else e.loadA
                     loadB := if maskNames mask .b then min (e.loadB + x) c else e.loadB }
          else e
        | .yield mask x =>
          { e with loadA := if maskNames mask .a then min (e.loadA - x) c else e.loadA
                   loadB := if maskNames mask .b then min (e.loadB - x) c else e.loadB }
      exec (.noticeReceived last) s = .next { s.setPeer i applied with
        line := { s.line with receiver := .hunt, freePoint := .normal, bits := ⟨0, 0⟩ }
        port := if old.state = .absent then s.port.add s.stationTime (.peerEvent i .joined) else s.port })

/-- R118, R122, R126, R142, R153: a duplicate detection, by a valid notice with the station's own number or by the
end of a character inside which an own notice lost arbitration after its header, makes a station in LISTEN_IN or
ACTIVE DUPLICATE: its list is emptied, PEER_EVENT DUPLICATE is queued, and the CLAIMING flow and then every flow of
the claim queue are refused DUPLICATE_STATION, a CLAIMING flow with the cancel mark ending WITHDRAWN instead, as the
model reads the rules (log 18). The character of the loss is then judged as any other: it is collected, it ends the
notice, or it is a header inside it. In DUPLICATE a notice with the own number is discarded without count. The counts
of bit times stand as the event leaves them (log 9). -/
def Obligations.DuplicateDetectionsEndAdmission : Prop :=
  ∀ (s : State) (cs : List Byte) (last : Byte), s.inReset = false →
    s.line.sending = none → s.line.receiver = .inNotice cs →
    cs.head?.map senderOf = some s.straps.stn →
    let valid := ∃ n, readNotice (cs ++ [last]) = some n ∧ (cs ++ [last]).sum = 0#8 ∧ n.maskOk = true
    let k := s.line.counters
    let format (c : LineCounters) : LineCounters := { c with formatErrors := bump c.formatErrors }
    (s.view.station = .duplicate → s.line.bodyLoss = false → valid → exec (.noticeReceived last) s =
      .next { s with line := { s.line with receiver := .hunt, freePoint := .normal, bits := ⟨0, 0⟩ } }) ∧
    ((s.view.station = .listenIn ∨ s.view.station = .active) → s.ClaimsConsistent →
      ∀ (c : Instr) (receiver : Receiver) (counters : LineCounters),
        ((c = .noticeReceived last ∧ s.line.bodyLoss = false ∧ valid ∧ receiver = .hunt ∧ counters = k) ∨
         (c = .characterReceived last false ∧ s.line.bodyLoss = true ∧
          (∃ length, cs.head?.bind noticeLength = some length ∧ cs.length + 1 < length) ∧
          receiver = .inNotice (cs ++ [last]) ∧ counters = k) ∨
         ((c = .characterReceived last false ∨ c = .noticeReceived last) ∧ s.line.bodyLoss = true ∧
          ∃ n, readNotice (cs ++ [last]) = some n ∧ receiver = .hunt ∧
            counters = if (cs ++ [last]).sum ≠ 0#8 then { k with checkErrors := bump k.checkErrors }
              else if n.maskOk = true then k else format k) ∨
         ((c = .characterReceived last true ∨ c = .unknownHeader last) ∧ s.line.bodyLoss = true ∧
          if last.toNat / 16 = 2 ∨ last.toNat / 16 = 5 ∨ last.toNat / 16 = 9 then
            receiver = .inNotice [last] ∧ counters = format k
          else receiver = .hunt ∧ counters = format (format k))) →
      let ended (f : FlowId) : Outcome :=
        if (s.flow f).cancel = true then
          .flowClosed f .withdrawn (s.flow f).params.cls (s.flow f).params.legs (s.flow f).shownCounters
        else .flowRefused f .duplicateStation
      ∃ t, exec c s = .next t ∧ t.view = { s.view with station := .duplicate, listen := none } ∧
        t.line = { s.line with
          receiver := receiver, counters := counters, sendList := [], sending := none, pendingBreak := false
          driving := false, freePoint := .normal, bodyLoss := false, bits := ⟨0, 0⟩ } ∧
        t.adm = { s.adm with claimQueue := [], claiming := none, claimTimer := none } ∧
        (∀ f, t.flow f = if (s.flow f).state = .claimWait ∨ (s.flow f).state = .claiming then
          { s.flow f with state := .free, drain := none, lock := none, creditA := 0, creditB := 0 }
          else s.flow f) ∧
        t.port = ((Outcome.peerEvent s.straps.stn .duplicate :: s.adm.claiming.toList.map ended ++
            s.adm.claimQueue.map (fun f => Outcome.flowRefused f .duplicateStation)).foldl
          (fun p o => p.add s.stationTime o) s.port) ∧
        t = { s with view := t.view, line := t.line, adm := t.adm, flows := t.flows, port := t.port })

/-- R123, R124, R137, R139: the end of the own break, which is driven while no notice is being sent, clears it, places
a LOAD with the own entry's values and starts the LISTEN_IN timer at 200 ms, the run being also taken as heard where it
was held longer. A break heard counts once, sends the receiver to WAIT_FREE and places a LOAD in LISTEN_IN and ACTIVE.
It abandons the notice being sent, whose entry stays pending in its place with its whole content (R118); a CLAIM whose
flow carries the cancel mark is then withdrawn, its flow ends WITHDRAWN, and the oldest flow that waits is placed before
the LOAD (R148, R149, R157). The counts of bit times stand as the event leaves them (log 9), and timers are held as
deadlines of the own clock (log 4). -/
def Obligations.BreaksPlaceALoad : Prop :=
  ∀ s : State, s.inReset = false →
    let load := addLoad s.adm.ownA s.adm.ownB s.ownCount
    let loaded (list : List SendEntry) : List SendEntry :=
      if s.view.station = .listenIn ∨ s.view.station = .active then load list else list
    let counted := { s.line.counters with breaksHeard := bump s.line.counters.breaksHeard }
    (s.line.sending = none → s.line.driving = true → s.view.station = .listenIn →
      exec (.breakComplete false) s = .next { s with
        line := { s.line with
          driving := false, pendingBreak := false, receiver := .waitFree, freePoint := .normal, bits := ⟨0, 0⟩
          sendList := load s.line.sendList }
        view := { s.view with listen := some (s.ownClock + 200000000) } } ∧
      exec (.breakComplete true) s = .next { s with
        line := { s.line with
          driving := false, pendingBreak := false, receiver := .waitFree, freePoint := .normal, bodyLoss := false
          bits := ⟨0, 0⟩, sendList := load s.line.sendList, counters := counted }
        view := { s.view with listen := some (s.ownClock + 200000000) } }) ∧
    (s.line.driving = false → s.view.station ≠ .solo →
      let heard (list : List SendEntry) : Line := { s.line with
        receiver := .waitFree, sending := none, bodyLoss := false, freePoint := .normal, bits := ⟨0, 12⟩
        sendList := list, counters := counted }
      (s.line.sending = none → exec .breakHeard s = .next { s with line := heard (loaded s.line.sendList) }) ∧
      ∀ (n : Notice) (before : List SendEntry) (e : SendEntry) (after : List SendEntry),
        s.line.sending = some n → s.line.sendList = before ++ e :: after → e.onWire = true →
        (∀ d ∈ before ++ after, d.onWire = false) →
        ((n.isClaim = true → ∀ f, s.adm.claiming = some f → (s.flow f).cancel = false) →
          exec .breakHeard s = .next { s with
            line := heard (loaded (before ++ { e with onWire := false, changed := false } :: after)) }) ∧
        (∀ f, s.ClaimsConsistent → s.adm.claiming = some f → (s.flow f).cancel = true →
          n.isClaim = true → e.notice.isClaim = true → (∀ d ∈ before ++ after, d.notice.isClaim = false) →
          let y := s.flow f
          let closed := { s.setFlow f
              { y with state := .free, drain := none, lock := none, creditA := 0, creditB := 0 } with
            adm := { s.adm with claiming := none, claimTimer := none }
            port := s.port.add s.stationTime (.flowClosed f .withdrawn y.params.cls y.params.legs y.shownCounters) }
          exec .breakHeard s = .next (match s.adm.claimQueue with
            | [] => { closed with line := heard (load (before ++ after)) }
            | g :: rest => { closed.setFlow g { s.flow g with state := .claiming } with
                adm := { s.adm with
                  claimQueue := rest, claiming := some g, claimTimer := some (s.ownClock + 500000000) }
                line := heard (load (addClaim (s.flow g).params.legs.code (s.flow g).derived.load
                  (before ++ after))) })))

/-- R123, R125, R141, R153: a stuck wire takes a station in LISTEN_IN or ACTIVE to ISOLATED, with its list emptied,
LINE_EVENT ISOLATED, and its undecided flows refused LINE_ISOLATED in the order of their declarations, a CLAIMING flow
with the cancel mark ending WITHDRAWN instead, as the model reads the rules (log 18); the run of the own break is then
taken as heard (log 27). Of an ISOLATED or DUPLICATE station it changes the count of dominant bit times alone. The wire
restored makes an ISOLATED station LISTEN_IN with a break requested. The counts of bit times stand as the event leaves
them (log 9). -/
def Obligations.StuckLineIsolatesUntilRestored : Prop :=
  ∀ s : State, s.inReset = false →
    ((s.view.station = .isolated ∨ s.view.station = .duplicate) → s.line.driving = false →
      exec .stuckLine s = .next { s with line := { s.line with bits := ⟨0, 64⟩ } }) ∧
    ((s.view.station = .listenIn ∨ s.view.station = .active) → s.ClaimsConsistent →
      (s.line.driving = true → s.line.sending = none) →
      let ended (f : FlowId) : Outcome :=
        if (s.flow f).cancel = true then
          .flowClosed f .withdrawn (s.flow f).params.cls (s.flow f).params.legs (s.flow f).shownCounters
        else .flowRefused f .lineIsolated
      ∃ t, exec .stuckLine s = .next t ∧ t.view = { s.view with station := .isolated, listen := none } ∧
        t.line = { s.line with
          receiver := .waitFree, sendList := [], sending := none, pendingBreak := false, driving := false
          freePoint := .normal, bodyLoss := false, bits := ⟨0, 64⟩
          counters := if s.line.driving then
              { s.line.counters with breaksHeard := bump s.line.counters.breaksHeard }
            else s.line.counters } ∧
        t.adm = { s.adm with claimQueue := [], claiming := none, claimTimer := none } ∧
        (∀ f, t.flow f = if (s.flow f).state = .claimWait ∨ (s.flow f).state = .claiming then
          { s.flow f with state := .free, drain := none, lock := none, creditA := 0, creditB := 0 }
          else s.flow f) ∧
        t.port = ((Outcome.lineEvent s.straps.stn .isolated :: s.adm.claiming.toList.map ended ++
            s.adm.claimQueue.map (fun f => Outcome.flowRefused f .lineIsolated)).foldl
          (fun p o => p.add s.stationTime o) s.port) ∧
        t = { s with view := t.view, line := t.line, adm := t.adm, flows := t.flows, port := t.port }) ∧
    (s.view.station = .isolated → exec .wireRestored s = .next { s with
      view := { s.view with station := .listenIn, listen := none }
      line := { s.line with receiver := .hunt, freePoint := .normal, pendingBreak := true, bits := ⟨12, 0⟩ }
      port := s.port.add s.stationTime (.lineEvent s.straps.stn .restored) })

/-- R114, R115: an addition to the send list. A YIELD of a new leg mask stands after the other YIELDs, one of a mask
that is there adds its amount to that entry, up to 16,777,215; a CLAIM stands after the YIELDs and before the LOAD; a
LOAD stands last, or puts its content in place of the LOAD that is there. An entry that is merged into or replaced
keeps its place and its mark as on the wire, and is marked as changed where it is on the wire; a new entry is not on
the wire. Nothing else of the list changes. That a LOAD put in place of an equal one is marked as changed too is the
model's reading (log 13). -/
def Obligations.AdditionsToTheSendList : Prop :=
  ∀ (before after : List SendEntry) (e : SendEntry),
    let isYield (d : SendEntry) : Prop := ∃ m x, d.notice = .yield m x
    let isClaim (d : SendEntry) : Prop := ∃ m x, d.notice = .claim m x
    let isLoad (d : SendEntry) : Prop := ∃ a b n, d.notice = .load a b n
    (∀ mask amount, (∀ d ∈ before, isYield d) → (∀ d ∈ after, isClaim d ∨ isLoad d) →
      (∀ d ∈ before, ∀ x, d.notice ≠ .yield mask x) →
      addYield mask amount (before ++ after) =
        before ++ { notice := .yield mask amount, onWire := false, changed := false } :: after) ∧
    (∀ mask amount x, e.notice = .yield mask x → (∀ d ∈ before, ∀ y, d.notice ≠ .yield mask y) →
      addYield mask amount (before ++ e :: after) =
        before ++ { notice := .yield mask (if 16777215 < x + amount then 16777215 else x + amount)
                    onWire := e.onWire, changed := e.changed || e.onWire } :: after) ∧
    (∀ mask amount, (∀ d ∈ before, isYield d) → (∀ d ∈ after, isLoad d) →
      addClaim mask amount (before ++ after) =
        before ++ { notice := .claim mask amount, onWire := false, changed := false } :: after) ∧
    (∀ a b n, (∀ d ∈ before, isYield d ∨ isClaim d) →
      addLoad a b n before = before ++ [{ notice := .load a b n, onWire := false, changed := false }]) ∧
    (∀ a b n, isLoad e → (∀ d ∈ before, isYield d ∨ isClaim d) →
      addLoad a b n (before ++ e :: after) =
        before ++ { notice := .load a b n, onWire := e.onWire, changed := e.changed || e.onWire } :: after)

/-- R113: the characters of a notice that fits its fields number 6 or 9, take 66 or 99 bit times, add up to 0
modulo 256, and read back as the notice and its sender. -/
def Obligations.NoticesReadBackAsSent : Prop :=
  ∀ (n : Notice) (i : StationId),
    (match n with
     | .yield m x => m < 256 ∧ x < 16777216
     | .claim m x => m < 256 ∧ x < 16777216
     | .load a b count => a < 16777216 ∧ b < 16777216 ∧ count < 256) →
    let cs := n.chars i
    readNotice cs = some n ∧ cs.sum = 0#8 ∧ cs.head?.map senderOf = some i ∧
      cs.head?.bind noticeLength = some cs.length ∧
      (noticeBits cs).length = (match n with
        | .load _ _ _ => 99
        | _ => 66)

/-! ## Share View and Admission timers -/

/-- R136, R137, R139: the LISTEN_IN timer makes the station ACTIVE with LINE_EVENT ACTIVE and places the oldest
flow that waits; a refresh tick restarts its timer, ages every LIVE or STALE peer entry in LISTEN_IN, ACTIVE and
DUPLICATE, to STALE at age 3 and to ABSENT at age 8, and places a LOAD in LISTEN_IN and ACTIVE. Timers are
deadlines of the model's own clock (log 4), and the records of one tick go in the order of the station numbers,
the model's choice (log 14). -/
def Obligations.ShareViewTimersExpire : Prop :=
  ∀ s : State, s.inReset = false →
    (∀ deadline, s.view.station = .listenIn → s.view.listen = some deadline →
      let claimed (f : FlowId) : List SendEntry :=
        addClaim (s.flow f).params.legs.code (s.flow f).derived.load s.line.sendList
      let clock := max s.ownClock deadline
      let base := { s with
        ownClock := clock, view := { s.view with station := .active, listen := none }
        port := s.port.add s.stationTime (.lineEvent s.straps.stn .active) }
      ((s.adm.claimQueue = [] ∨ s.adm.claiming ≠ none) → exec .listenInTimeout s = .next base) ∧
      ∀ (f : FlowId) (rest : List FlowId), s.adm.claiming = none → s.adm.claimQueue = f :: rest →
        exec .listenInTimeout s = .next { base.setFlow f { s.flow f with state := .claiming } with
          adm := { s.adm with
            claimQueue := rest, claiming := some f, claimTimer := some (clock + 500000000) }
          line := { s.line with sendList := claimed f } }) ∧
    ∃ t, exec .refreshTick s = .next t ∧
      (∀ i, t.peer i =
        let e := s.peer i
        if i = s.straps.stn ∨ e.state = .absent ∨ s.view.station = .solo ∨ s.view.station = .isolated then e
        else if 8 ≤ e.age + 1 then ⟨.absent, 0, 0, 0, 0⟩
        else if e.age + 1 = 3 ∧ e.state = .live then { e with state := .stale, age := 3 }
        else { e with age := e.age + 1 }) ∧
      t.ownClock = max s.ownClock s.view.refresh ∧
      t.view.refresh = s.view.refresh + 100000000 ∧
      t.line = { s.line with
        sendList := if s.view.station = .listenIn ∨ s.view.station = .active then
            addLoad s.adm.ownA s.adm.ownB s.ownCount s.line.sendList
          else s.line.sendList } ∧
      t.port = ((List.finRange 16).filterMap (fun i =>
        let e := s.peer i
        if i = s.straps.stn ∨ e.state = .absent ∨ s.view.station = .solo ∨ s.view.station = .isolated then none
        else if 8 ≤ e.age + 1 then some (Outcome.peerEvent i .lost)
        else if e.age + 1 = 3 ∧ e.state = .live then some (Outcome.peerEvent i .stale)
        else none)).foldl (fun q o => q.add s.stationTime o) s.port ∧
      t = { s with
        ownClock := t.ownClock, line := t.line, port := t.port
        view := { s.view with peers := t.view.peers, refresh := t.view.refresh } }

/-- R116, R148, R152, R157: the claim timer withdraws the CLAIM of the CLAIMING flow, cutting the notice on the wire,
and refuses the flow CLAIM_TIMEOUT, or closes it WITHDRAWN where it carries the cancel mark; no load changes. The
oldest flow that waits is placed in the same event. A CLAIM in its last stop bit is left to its completion, and
to a loss of that bit too, which the rules do not speak of (log 33). That the own clock stands at the deadline meanwhile
(logs 4, 23), and that a cut leaves the counts of bit times as they were (log 9), is the model's. -/
def Obligations.ClaimTimeoutWithdraws : Prop :=
  ∀ (s : State) (f : FlowId) (deadline : Nat) (lastStopBit : Bool), s.inReset = false →
    s.adm.claiming = some f → s.adm.claimTimer = some deadline → f ∉ s.adm.claimQueue →
    let y := s.flow f
    let clock := max s.ownClock deadline
    let placed (u : State) : State :=
      if s.view.station = .active then
        match s.adm.claimQueue with
        | [] => u
        | g :: rest => { u.setFlow g { s.flow g with state := .claiming } with
            adm := { u.adm with claimQueue := rest, claiming := some g, claimTimer := some (clock + 500000000) }
            line := { u.line with
              sendList := addClaim (s.flow g).params.legs.code (s.flow g).derived.load u.line.sendList } }
      else u
    if s.line.claimOnWire = true ∧ lastStopBit = true then
      exec (.claimTimeout lastStopBit) s = .next { s with ownClock := clock }
    else
      exec (.claimTimeout lastStopBit) s = .next (placed { s.setFlow f { s.flow f with
          state := .free, drain := none, lock := none, creditA := 0, creditB := 0 } with
        ownClock := clock
        adm := { s.adm with claiming := none, claimTimer := none }
        line := { s.line with
          sendList := s.line.sendList.filter (fun e => !e.notice.isClaim)
          sending := if s.line.claimOnWire then none else s.line.sending
          freePoint := if s.line.claimOnWire then .normal else s.line.freePoint }
        port := s.port.add s.stationTime (if y.cancel then
            .flowClosed f .withdrawn y.params.cls y.params.legs y.shownCounters
          else .flowRefused f .claimTimeout) })

/-! ## Invariants -/

/-- R40: no cell is lost or counted twice. Every step keeps the free pool count plus the cells of all held units
at 8192, and keeps each unit's holder count equal to the number of places where it stands. -/
def Obligations.EveryStepKeepsTheCells : Prop :=
  ∀ s t : State, step s = .next t →
    (s.PoolWhole → t.PoolWhole) ∧ (s.HoldersExact → t.HoldersExact)

/-- R98: every step keeps the request of each fitted leg open exactly while the leg is IDLE and may serve. -/
def Obligations.EveryStepKeepsTheRequests : Prop :=
  ∀ s t : State, s.RequestsSettled → step s = .next t → t.RequestsSettled

/-- R146, R155: every step keeps the own entry's loads equal to the sum of the loads of the flows that hold load,
within the admission limit, and the claim queue consistent with the flow states. -/
def Obligations.EveryStepKeepsTheOwnEntry : Prop :=
  ∀ s t : State, s.OwnEntryExact → step s = .next t → t.OwnEntryExact

/-- R1, R5, R8, R22, R24, R42, R50, R51, R53, R64, R80, R81, R89: every step keeps every flow's record, intake queue and
slot, lock state, carried position, credits and leg queues as the rules say they stand; and, while holder counts are
exact, the due times within each leg queue strictly increasing and before the instant of the flow's position. -/
def Obligations.EveryStepKeepsTheFlows : Prop :=
  ∀ s t : State, s.FlowsSound → step s = .next t →
    t.FlowsSound ∧ (s.HoldersExact → s.DuesIncrease → t.DuesIncrease)

/-- R114-R116, R119, R148: every step keeps the send list in order of kind, with at most one CLAIM, one LOAD and one
YIELD per leg mask, at most one entry on the wire and one exactly while a notice is being sent, a CLAIM exactly while
a flow is CLAIMING, and nothing in SOLO, ISOLATED and DUPLICATE. -/
def Obligations.EveryStepKeepsTheSendList : Prop :=
  ∀ s t : State, s.SendListSound → step s = .next t → t.SendListSound

/-- R2, R37, R107, R128: a counter raised by d becomes the sum, or 4,294,967,295 where the sum is above it, and every
step keeps every counter of the flows, the legs, the line and the intake at 4,294,967,295 or below. It keeps
the receiver's counts of bit times, as the events of the line leave them (log 9), such that one of them is 0, no more
than 12 recessive and 64 dominant ones are counted, and a receiver that waits for the free wire has counted no recessive
ones (R112, R120). -/
def Obligations.EveryStepKeepsTheCounters : Prop :=
  (∀ c d : Nat, raise c d = if c + d ≤ 4294967295 then c + d else 4294967295) ∧
  (∀ c : Nat, bump c = if c + 1 ≤ 4294967295 then c + 1 else 4294967295) ∧
  ∀ s t : State, step s = .next t →
    (s.CountersBounded → t.CountersBounded) ∧ (s.BitCountsSound → t.BitCountsSound)

/-- The state in which RESET_END leaves the part meets every invariant, for every choice of straps and of the levels of
the permit and freeze lines. State.reset is that state with every strap and level at 0, which is the model's choice
(log 5). That RESET_END acts from every state and keeps the waiting commands (logs 6, 22), and that a leg that may
serve has its request open then (log 29), is the model's too. -/
def Obligations.ResetMeetsTheInvariants : Prop :=
  State.reset = State.afterReset ⟨0, 0, 0, false, false⟩ false false false [] ∧
  ∀ (straps : Straps) (permitA permitB freeze : Bool) (u : State),
    let s := State.afterReset straps permitA permitB freeze u.pending
    exec (.resetEnd straps permitA permitB freeze) u = .next s ∧
    s.OutcomesBounded ∧ s.PoolWhole ∧ s.HoldersExact ∧ s.RequestsSettled ∧ s.OwnEntryExact ∧ s.FlowsSound ∧
    s.DuesIncrease ∧ s.SendListSound ∧ s.CountersBounded ∧ s.BitCountsSound

/-- Spec/12, R159, R170: the record written for a command of the intake stream, from the layout of tag and
bodies, reads back as that command. -/
def Obligations.RecordsReadBackAsWritten : Prop :=
  ∀ (c : Instr) (bytes : List Byte), c.wellFormed = true → writeRecord c = some bytes →
    readRecord bytes = some c
end

