-- ==== Sys2Proof/Laws/State.lean ====
section
/-! SUPPORT. Beside State: one lemma per field per update of the named operations, so that no proof unfolds a
record update, and what the accessors read after an update. -/

namespace Sys2Proof.Machine

variable (s : State)


/-! ### setFlow -/

@[simp] theorem State.setFlow_inReset (f : FlowId) (x : Flow) : (s.setFlow f x).inReset = s.inReset := rfl
@[simp] theorem State.setFlow_straps (f : FlowId) (x : Flow) : (s.setFlow f x).straps = s.straps := rfl
@[simp] theorem State.setFlow_ownClock (f : FlowId) (x : Flow) : (s.setFlow f x).ownClock = s.ownClock := rfl
@[simp] theorem State.setFlow_freeze (f : FlowId) (x : Flow) : (s.setFlow f x).freeze = s.freeze := rfl
@[simp] theorem State.setFlow_port (f : FlowId) (x : Flow) : (s.setFlow f x).port = s.port := rfl
@[simp] theorem State.setFlow_time (f : FlowId) (x : Flow) : (s.setFlow f x).time = s.time := rfl
@[simp] theorem State.setFlow_store (f : FlowId) (x : Flow) : (s.setFlow f x).store = s.store := rfl
@[simp] theorem State.setFlow_legA (f : FlowId) (x : Flow) : (s.setFlow f x).legA = s.legA := rfl
@[simp] theorem State.setFlow_legB (f : FlowId) (x : Flow) : (s.setFlow f x).legB = s.legB := rfl
@[simp] theorem State.setFlow_line (f : FlowId) (x : Flow) : (s.setFlow f x).line = s.line := rfl
@[simp] theorem State.setFlow_view (f : FlowId) (x : Flow) : (s.setFlow f x).view = s.view := rfl
@[simp] theorem State.setFlow_adm (f : FlowId) (x : Flow) : (s.setFlow f x).adm = s.adm := rfl
@[simp] theorem State.setFlow_pending (f : FlowId) (x : Flow) : (s.setFlow f x).pending = s.pending := rfl

/-! ### modFlow -/

@[simp] theorem State.modFlow_inReset (f : FlowId) (g : Flow → Flow) : (s.modFlow f g).inReset = s.inReset := rfl
@[simp] theorem State.modFlow_straps (f : FlowId) (g : Flow → Flow) : (s.modFlow f g).straps = s.straps := rfl
@[simp] theorem State.modFlow_ownClock (f : FlowId) (g : Flow → Flow) : (s.modFlow f g).ownClock = s.ownClock := rfl
@[simp] theorem State.modFlow_freeze (f : FlowId) (g : Flow → Flow) : (s.modFlow f g).freeze = s.freeze := rfl
@[simp] theorem State.modFlow_port (f : FlowId) (g : Flow → Flow) : (s.modFlow f g).port = s.port := rfl
@[simp] theorem State.modFlow_time (f : FlowId) (g : Flow → Flow) : (s.modFlow f g).time = s.time := rfl
@[simp] theorem State.modFlow_store (f : FlowId) (g : Flow → Flow) : (s.modFlow f g).store = s.store := rfl
@[simp] theorem State.modFlow_legA (f : FlowId) (g : Flow → Flow) : (s.modFlow f g).legA = s.legA := rfl
@[simp] theorem State.modFlow_legB (f : FlowId) (g : Flow → Flow) : (s.modFlow f g).legB = s.legB := rfl
@[simp] theorem State.modFlow_line (f : FlowId) (g : Flow → Flow) : (s.modFlow f g).line = s.line := rfl
@[simp] theorem State.modFlow_view (f : FlowId) (g : Flow → Flow) : (s.modFlow f g).view = s.view := rfl
@[simp] theorem State.modFlow_adm (f : FlowId) (g : Flow → Flow) : (s.modFlow f g).adm = s.adm := rfl
@[simp] theorem State.modFlow_pending (f : FlowId) (g : Flow → Flow) : (s.modFlow f g).pending = s.pending := rfl

/-! ### setLeg -/

@[simp] theorem State.setLeg_inReset (l : Leg) (x : EgressLeg) : (s.setLeg l x).inReset = s.inReset := by cases l <;> rfl
@[simp] theorem State.setLeg_straps (l : Leg) (x : EgressLeg) : (s.setLeg l x).straps = s.straps := by cases l <;> rfl
@[simp] theorem State.setLeg_ownClock (l : Leg) (x : EgressLeg) : (s.setLeg l x).ownClock = s.ownClock := by cases l <;> rfl
@[simp] theorem State.setLeg_freeze (l : Leg) (x : EgressLeg) : (s.setLeg l x).freeze = s.freeze := by cases l <;> rfl
@[simp] theorem State.setLeg_port (l : Leg) (x : EgressLeg) : (s.setLeg l x).port = s.port := by cases l <;> rfl
@[simp] theorem State.setLeg_time (l : Leg) (x : EgressLeg) : (s.setLeg l x).time = s.time := by cases l <;> rfl
@[simp] theorem State.setLeg_store (l : Leg) (x : EgressLeg) : (s.setLeg l x).store = s.store := by cases l <;> rfl
@[simp] theorem State.setLeg_flows (l : Leg) (x : EgressLeg) : (s.setLeg l x).flows = s.flows := by cases l <;> rfl
@[simp] theorem State.setLeg_line (l : Leg) (x : EgressLeg) : (s.setLeg l x).line = s.line := by cases l <;> rfl
@[simp] theorem State.setLeg_view (l : Leg) (x : EgressLeg) : (s.setLeg l x).view = s.view := by cases l <;> rfl
@[simp] theorem State.setLeg_adm (l : Leg) (x : EgressLeg) : (s.setLeg l x).adm = s.adm := by cases l <;> rfl
@[simp] theorem State.setLeg_pending (l : Leg) (x : EgressLeg) : (s.setLeg l x).pending = s.pending := by cases l <;> rfl

/-! ### modLeg -/

@[simp] theorem State.modLeg_inReset (l : Leg) (g : EgressLeg → EgressLeg) : (s.modLeg l g).inReset = s.inReset := by cases l <;> rfl
@[simp] theorem State.modLeg_straps (l : Leg) (g : EgressLeg → EgressLeg) : (s.modLeg l g).straps = s.straps := by cases l <;> rfl
@[simp] theorem State.modLeg_ownClock (l : Leg) (g : EgressLeg → EgressLeg) : (s.modLeg l g).ownClock = s.ownClock := by cases l <;> rfl
@[simp] theorem State.modLeg_freeze (l : Leg) (g : EgressLeg → EgressLeg) : (s.modLeg l g).freeze = s.freeze := by cases l <;> rfl
@[simp] theorem State.modLeg_port (l : Leg) (g : EgressLeg → EgressLeg) : (s.modLeg l g).port = s.port := by cases l <;> rfl
@[simp] theorem State.modLeg_time (l : Leg) (g : EgressLeg → EgressLeg) : (s.modLeg l g).time = s.time := by cases l <;> rfl
@[simp] theorem State.modLeg_store (l : Leg) (g : EgressLeg → EgressLeg) : (s.modLeg l g).store = s.store := by cases l <;> rfl
@[simp] theorem State.modLeg_flows (l : Leg) (g : EgressLeg → EgressLeg) : (s.modLeg l g).flows = s.flows := by cases l <;> rfl
@[simp] theorem State.modLeg_line (l : Leg) (g : EgressLeg → EgressLeg) : (s.modLeg l g).line = s.line := by cases l <;> rfl
@[simp] theorem State.modLeg_view (l : Leg) (g : EgressLeg → EgressLeg) : (s.modLeg l g).view = s.view := by cases l <;> rfl
@[simp] theorem State.modLeg_adm (l : Leg) (g : EgressLeg → EgressLeg) : (s.modLeg l g).adm = s.adm := by cases l <;> rfl
@[simp] theorem State.modLeg_pending (l : Leg) (g : EgressLeg → EgressLeg) : (s.modLeg l g).pending = s.pending := by cases l <;> rfl

/-! ### modLegSettled -/

@[simp] theorem State.modLegSettled_inReset (l : Leg) (g : EgressLeg → EgressLeg) : (s.modLegSettled l g).inReset = s.inReset := by cases l <;> rfl
@[simp] theorem State.modLegSettled_straps (l : Leg) (g : EgressLeg → EgressLeg) : (s.modLegSettled l g).straps = s.straps := by cases l <;> rfl
@[simp] theorem State.modLegSettled_ownClock (l : Leg) (g : EgressLeg → EgressLeg) : (s.modLegSettled l g).ownClock = s.ownClock := by cases l <;> rfl
@[simp] theorem State.modLegSettled_freeze (l : Leg) (g : EgressLeg → EgressLeg) : (s.modLegSettled l g).freeze = s.freeze := by cases l <;> rfl
@[simp] theorem State.modLegSettled_port (l : Leg) (g : EgressLeg → EgressLeg) : (s.modLegSettled l g).port = s.port := by cases l <;> rfl
@[simp] theorem State.modLegSettled_time (l : Leg) (g : EgressLeg → EgressLeg) : (s.modLegSettled l g).time = s.time := by cases l <;> rfl
@[simp] theorem State.modLegSettled_store (l : Leg) (g : EgressLeg → EgressLeg) : (s.modLegSettled l g).store = s.store := by cases l <;> rfl
@[simp] theorem State.modLegSettled_flows (l : Leg) (g : EgressLeg → EgressLeg) : (s.modLegSettled l g).flows = s.flows := by cases l <;> rfl
@[simp] theorem State.modLegSettled_line (l : Leg) (g : EgressLeg → EgressLeg) : (s.modLegSettled l g).line = s.line := by cases l <;> rfl
@[simp] theorem State.modLegSettled_view (l : Leg) (g : EgressLeg → EgressLeg) : (s.modLegSettled l g).view = s.view := by cases l <;> rfl
@[simp] theorem State.modLegSettled_adm (l : Leg) (g : EgressLeg → EgressLeg) : (s.modLegSettled l g).adm = s.adm := by cases l <;> rfl
@[simp] theorem State.modLegSettled_pending (l : Leg) (g : EgressLeg → EgressLeg) : (s.modLegSettled l g).pending = s.pending := by cases l <;> rfl

/-! ### emit -/

@[simp] theorem State.emit_inReset (o : Outcome) : (s.emit o).inReset = s.inReset := rfl
@[simp] theorem State.emit_straps (o : Outcome) : (s.emit o).straps = s.straps := rfl
@[simp] theorem State.emit_ownClock (o : Outcome) : (s.emit o).ownClock = s.ownClock := rfl
@[simp] theorem State.emit_freeze (o : Outcome) : (s.emit o).freeze = s.freeze := rfl
@[simp] theorem State.emit_time (o : Outcome) : (s.emit o).time = s.time := rfl
@[simp] theorem State.emit_store (o : Outcome) : (s.emit o).store = s.store := rfl
@[simp] theorem State.emit_flows (o : Outcome) : (s.emit o).flows = s.flows := rfl
@[simp] theorem State.emit_legA (o : Outcome) : (s.emit o).legA = s.legA := rfl
@[simp] theorem State.emit_legB (o : Outcome) : (s.emit o).legB = s.legB := rfl
@[simp] theorem State.emit_line (o : Outcome) : (s.emit o).line = s.line := rfl
@[simp] theorem State.emit_view (o : Outcome) : (s.emit o).view = s.view := rfl
@[simp] theorem State.emit_adm (o : Outcome) : (s.emit o).adm = s.adm := rfl
@[simp] theorem State.emit_pending (o : Outcome) : (s.emit o).pending = s.pending := rfl

/-! ### refuse -/

@[simp] theorem State.refuse_inReset (c : DirectiveCode) (x y : Byte) : (s.refuse c x y).inReset = s.inReset := rfl
@[simp] theorem State.refuse_straps (c : DirectiveCode) (x y : Byte) : (s.refuse c x y).straps = s.straps := rfl
@[simp] theorem State.refuse_ownClock (c : DirectiveCode) (x y : Byte) : (s.refuse c x y).ownClock = s.ownClock := rfl
@[simp] theorem State.refuse_freeze (c : DirectiveCode) (x y : Byte) : (s.refuse c x y).freeze = s.freeze := rfl
@[simp] theorem State.refuse_time (c : DirectiveCode) (x y : Byte) : (s.refuse c x y).time = s.time := rfl
@[simp] theorem State.refuse_store (c : DirectiveCode) (x y : Byte) : (s.refuse c x y).store = s.store := rfl
@[simp] theorem State.refuse_flows (c : DirectiveCode) (x y : Byte) : (s.refuse c x y).flows = s.flows := rfl
@[simp] theorem State.refuse_legA (c : DirectiveCode) (x y : Byte) : (s.refuse c x y).legA = s.legA := rfl
@[simp] theorem State.refuse_legB (c : DirectiveCode) (x y : Byte) : (s.refuse c x y).legB = s.legB := rfl
@[simp] theorem State.refuse_line (c : DirectiveCode) (x y : Byte) : (s.refuse c x y).line = s.line := rfl
@[simp] theorem State.refuse_view (c : DirectiveCode) (x y : Byte) : (s.refuse c x y).view = s.view := rfl
@[simp] theorem State.refuse_adm (c : DirectiveCode) (x y : Byte) : (s.refuse c x y).adm = s.adm := rfl
@[simp] theorem State.refuse_pending (c : DirectiveCode) (x y : Byte) : (s.refuse c x y).pending = s.pending := rfl

/-! ### reach -/

@[simp] theorem State.reach_inReset (d : Nat) : (s.reach d).inReset = s.inReset := rfl
@[simp] theorem State.reach_straps (d : Nat) : (s.reach d).straps = s.straps := rfl
@[simp] theorem State.reach_freeze (d : Nat) : (s.reach d).freeze = s.freeze := rfl
@[simp] theorem State.reach_port (d : Nat) : (s.reach d).port = s.port := rfl
@[simp] theorem State.reach_time (d : Nat) : (s.reach d).time = s.time := rfl
@[simp] theorem State.reach_store (d : Nat) : (s.reach d).store = s.store := rfl
@[simp] theorem State.reach_flows (d : Nat) : (s.reach d).flows = s.flows := rfl
@[simp] theorem State.reach_legA (d : Nat) : (s.reach d).legA = s.legA := rfl
@[simp] theorem State.reach_legB (d : Nat) : (s.reach d).legB = s.legB := rfl
@[simp] theorem State.reach_line (d : Nat) : (s.reach d).line = s.line := rfl
@[simp] theorem State.reach_view (d : Nat) : (s.reach d).view = s.view := rfl
@[simp] theorem State.reach_adm (d : Nat) : (s.reach d).adm = s.adm := rfl
@[simp] theorem State.reach_pending (d : Nat) : (s.reach d).pending = s.pending := rfl

/-! ### release -/

@[simp] theorem State.release_inReset (id : Nat) : (s.release id).inReset = s.inReset := rfl
@[simp] theorem State.release_straps (id : Nat) : (s.release id).straps = s.straps := rfl
@[simp] theorem State.release_ownClock (id : Nat) : (s.release id).ownClock = s.ownClock := rfl
@[simp] theorem State.release_freeze (id : Nat) : (s.release id).freeze = s.freeze := rfl
@[simp] theorem State.release_port (id : Nat) : (s.release id).port = s.port := rfl
@[simp] theorem State.release_time (id : Nat) : (s.release id).time = s.time := rfl
@[simp] theorem State.release_flows (id : Nat) : (s.release id).flows = s.flows := rfl
@[simp] theorem State.release_legA (id : Nat) : (s.release id).legA = s.legA := rfl
@[simp] theorem State.release_legB (id : Nat) : (s.release id).legB = s.legB := rfl
@[simp] theorem State.release_line (id : Nat) : (s.release id).line = s.line := rfl
@[simp] theorem State.release_view (id : Nat) : (s.release id).view = s.view := rfl
@[simp] theorem State.release_adm (id : Nat) : (s.release id).adm = s.adm := rfl
@[simp] theorem State.release_pending (id : Nat) : (s.release id).pending = s.pending := rfl

/-! ### modSendList -/

@[simp] theorem State.modSendList_inReset (g : List SendEntry → List SendEntry) : (s.modSendList g).inReset = s.inReset := rfl
@[simp] theorem State.modSendList_straps (g : List SendEntry → List SendEntry) : (s.modSendList g).straps = s.straps := rfl
@[simp] theorem State.modSendList_ownClock (g : List SendEntry → List SendEntry) : (s.modSendList g).ownClock = s.ownClock := rfl
@[simp] theorem State.modSendList_freeze (g : List SendEntry → List SendEntry) : (s.modSendList g).freeze = s.freeze := rfl
@[simp] theorem State.modSendList_port (g : List SendEntry → List SendEntry) : (s.modSendList g).port = s.port := rfl
@[simp] theorem State.modSendList_time (g : List SendEntry → List SendEntry) : (s.modSendList g).time = s.time := rfl
@[simp] theorem State.modSendList_store (g : List SendEntry → List SendEntry) : (s.modSendList g).store = s.store := rfl
@[simp] theorem State.modSendList_flows (g : List SendEntry → List SendEntry) : (s.modSendList g).flows = s.flows := rfl
@[simp] theorem State.modSendList_legA (g : List SendEntry → List SendEntry) : (s.modSendList g).legA = s.legA := rfl
@[simp] theorem State.modSendList_legB (g : List SendEntry → List SendEntry) : (s.modSendList g).legB = s.legB := rfl
@[simp] theorem State.modSendList_view (g : List SendEntry → List SendEntry) : (s.modSendList g).view = s.view := rfl
@[simp] theorem State.modSendList_adm (g : List SendEntry → List SendEntry) : (s.modSendList g).adm = s.adm := rfl
@[simp] theorem State.modSendList_pending (g : List SendEntry → List SendEntry) : (s.modSendList g).pending = s.pending := rfl

/-! ### placeLoad -/

@[simp] theorem State.placeLoad_inReset : (s.placeLoad).inReset = s.inReset := rfl
@[simp] theorem State.placeLoad_straps : (s.placeLoad).straps = s.straps := rfl
@[simp] theorem State.placeLoad_ownClock : (s.placeLoad).ownClock = s.ownClock := rfl
@[simp] theorem State.placeLoad_freeze : (s.placeLoad).freeze = s.freeze := rfl
@[simp] theorem State.placeLoad_port : (s.placeLoad).port = s.port := rfl
@[simp] theorem State.placeLoad_time : (s.placeLoad).time = s.time := rfl
@[simp] theorem State.placeLoad_store : (s.placeLoad).store = s.store := rfl
@[simp] theorem State.placeLoad_flows : (s.placeLoad).flows = s.flows := rfl
@[simp] theorem State.placeLoad_legA : (s.placeLoad).legA = s.legA := rfl
@[simp] theorem State.placeLoad_legB : (s.placeLoad).legB = s.legB := rfl
@[simp] theorem State.placeLoad_view : (s.placeLoad).view = s.view := rfl
@[simp] theorem State.placeLoad_adm : (s.placeLoad).adm = s.adm := rfl
@[simp] theorem State.placeLoad_pending : (s.placeLoad).pending = s.pending := rfl

/-! ### placeLoadIfSpeaking -/

@[simp] theorem State.placeLoadIfSpeaking_inReset : (s.placeLoadIfSpeaking).inReset = s.inReset := by
  unfold State.placeLoadIfSpeaking; split <;> rfl
@[simp] theorem State.placeLoadIfSpeaking_straps : (s.placeLoadIfSpeaking).straps = s.straps := by
  unfold State.placeLoadIfSpeaking; split <;> rfl
@[simp] theorem State.placeLoadIfSpeaking_ownClock : (s.placeLoadIfSpeaking).ownClock = s.ownClock := by
  unfold State.placeLoadIfSpeaking; split <;> rfl
@[simp] theorem State.placeLoadIfSpeaking_freeze : (s.placeLoadIfSpeaking).freeze = s.freeze := by
  unfold State.placeLoadIfSpeaking; split <;> rfl
@[simp] theorem State.placeLoadIfSpeaking_port : (s.placeLoadIfSpeaking).port = s.port := by
  unfold State.placeLoadIfSpeaking; split <;> rfl
@[simp] theorem State.placeLoadIfSpeaking_time : (s.placeLoadIfSpeaking).time = s.time := by
  unfold State.placeLoadIfSpeaking; split <;> rfl
@[simp] theorem State.placeLoadIfSpeaking_store : (s.placeLoadIfSpeaking).store = s.store := by
  unfold State.placeLoadIfSpeaking; split <;> rfl
@[simp] theorem State.placeLoadIfSpeaking_flows : (s.placeLoadIfSpeaking).flows = s.flows := by
  unfold State.placeLoadIfSpeaking; split <;> rfl
@[simp] theorem State.placeLoadIfSpeaking_legA : (s.placeLoadIfSpeaking).legA = s.legA := by
  unfold State.placeLoadIfSpeaking; split <;> rfl
@[simp] theorem State.placeLoadIfSpeaking_legB : (s.placeLoadIfSpeaking).legB = s.legB := by
  unfold State.placeLoadIfSpeaking; split <;> rfl
@[simp] theorem State.placeLoadIfSpeaking_view : (s.placeLoadIfSpeaking).view = s.view := by
  unfold State.placeLoadIfSpeaking; split <;> rfl
@[simp] theorem State.placeLoadIfSpeaking_adm : (s.placeLoadIfSpeaking).adm = s.adm := by
  unfold State.placeLoadIfSpeaking; split <;> rfl
@[simp] theorem State.placeLoadIfSpeaking_pending : (s.placeLoadIfSpeaking).pending = s.pending := by
  unfold State.placeLoadIfSpeaking; split <;> rfl

/-! ### syncLoad -/

@[simp] theorem State.syncLoad_inReset : (s.syncLoad).inReset = s.inReset := by
  unfold State.syncLoad; split <;> rfl
@[simp] theorem State.syncLoad_straps : (s.syncLoad).straps = s.straps := by
  unfold State.syncLoad; split <;> rfl
@[simp] theorem State.syncLoad_ownClock : (s.syncLoad).ownClock = s.ownClock := by
  unfold State.syncLoad; split <;> rfl
@[simp] theorem State.syncLoad_freeze : (s.syncLoad).freeze = s.freeze := by
  unfold State.syncLoad; split <;> rfl
@[simp] theorem State.syncLoad_port : (s.syncLoad).port = s.port := by
  unfold State.syncLoad; split <;> rfl
@[simp] theorem State.syncLoad_time : (s.syncLoad).time = s.time := by
  unfold State.syncLoad; split <;> rfl
@[simp] theorem State.syncLoad_store : (s.syncLoad).store = s.store := by
  unfold State.syncLoad; split <;> rfl
@[simp] theorem State.syncLoad_flows : (s.syncLoad).flows = s.flows := by
  unfold State.syncLoad; split <;> rfl
@[simp] theorem State.syncLoad_legA : (s.syncLoad).legA = s.legA := by
  unfold State.syncLoad; split <;> rfl
@[simp] theorem State.syncLoad_legB : (s.syncLoad).legB = s.legB := by
  unfold State.syncLoad; split <;> rfl
@[simp] theorem State.syncLoad_view : (s.syncLoad).view = s.view := by
  unfold State.syncLoad; split <;> rfl
@[simp] theorem State.syncLoad_adm : (s.syncLoad).adm = s.adm := by
  unfold State.syncLoad; split <;> rfl
@[simp] theorem State.syncLoad_pending : (s.syncLoad).pending = s.pending := by
  unfold State.syncLoad; split <;> rfl

/-! ### queueYield -/

@[simp] theorem State.queueYield_inReset (x : Legs) (n : Nat) : (s.queueYield x n).inReset = s.inReset := by
  unfold State.queueYield; split <;> rfl
@[simp] theorem State.queueYield_straps (x : Legs) (n : Nat) : (s.queueYield x n).straps = s.straps := by
  unfold State.queueYield; split <;> rfl
@[simp] theorem State.queueYield_ownClock (x : Legs) (n : Nat) : (s.queueYield x n).ownClock = s.ownClock := by
  unfold State.queueYield; split <;> rfl
@[simp] theorem State.queueYield_freeze (x : Legs) (n : Nat) : (s.queueYield x n).freeze = s.freeze := by
  unfold State.queueYield; split <;> rfl
@[simp] theorem State.queueYield_port (x : Legs) (n : Nat) : (s.queueYield x n).port = s.port := by
  unfold State.queueYield; split <;> rfl
@[simp] theorem State.queueYield_time (x : Legs) (n : Nat) : (s.queueYield x n).time = s.time := by
  unfold State.queueYield; split <;> rfl
@[simp] theorem State.queueYield_store (x : Legs) (n : Nat) : (s.queueYield x n).store = s.store := by
  unfold State.queueYield; split <;> rfl
@[simp] theorem State.queueYield_flows (x : Legs) (n : Nat) : (s.queueYield x n).flows = s.flows := by
  unfold State.queueYield; split <;> rfl
@[simp] theorem State.queueYield_legA (x : Legs) (n : Nat) : (s.queueYield x n).legA = s.legA := by
  unfold State.queueYield; split <;> rfl
@[simp] theorem State.queueYield_legB (x : Legs) (n : Nat) : (s.queueYield x n).legB = s.legB := by
  unfold State.queueYield; split <;> rfl
@[simp] theorem State.queueYield_view (x : Legs) (n : Nat) : (s.queueYield x n).view = s.view := by
  unfold State.queueYield; split <;> rfl
@[simp] theorem State.queueYield_adm (x : Legs) (n : Nat) : (s.queueYield x n).adm = s.adm := by
  unfold State.queueYield; split <;> rfl
@[simp] theorem State.queueYield_pending (x : Legs) (n : Nat) : (s.queueYield x n).pending = s.pending := by
  unfold State.queueYield; split <;> rfl

/-! ### Counts of bit times -/

@[simp] theorem BitCounts.zero_eq : BitCounts.zero = ⟨0, 0⟩ := rfl
@[simp] theorem BitCounts.idle_eq : BitCounts.idle = ⟨12, 0⟩ := rfl
@[simp] theorem BitCounts.broken_eq : BitCounts.broken = ⟨0, 12⟩ := rfl
@[simp] theorem BitCounts.stuck_eq : BitCounts.stuck = ⟨0, 64⟩ := rfl
@[simp] theorem FreePoint.bits_normal : FreePoint.normal.bits = 12 := rfl
@[simp] theorem FreePoint.bits_later : FreePoint.later.bits = 16 := rfl

/-! ### modLine -/

@[simp] theorem State.modLine_inReset (g : Line → Line) : (s.modLine g).inReset = s.inReset := rfl
@[simp] theorem State.modLine_straps (g : Line → Line) : (s.modLine g).straps = s.straps := rfl
@[simp] theorem State.modLine_ownClock (g : Line → Line) : (s.modLine g).ownClock = s.ownClock := rfl
@[simp] theorem State.modLine_freeze (g : Line → Line) : (s.modLine g).freeze = s.freeze := rfl
@[simp] theorem State.modLine_port (g : Line → Line) : (s.modLine g).port = s.port := rfl
@[simp] theorem State.modLine_time (g : Line → Line) : (s.modLine g).time = s.time := rfl
@[simp] theorem State.modLine_store (g : Line → Line) : (s.modLine g).store = s.store := rfl
@[simp] theorem State.modLine_flows (g : Line → Line) : (s.modLine g).flows = s.flows := rfl
@[simp] theorem State.modLine_legA (g : Line → Line) : (s.modLine g).legA = s.legA := rfl
@[simp] theorem State.modLine_legB (g : Line → Line) : (s.modLine g).legB = s.legB := rfl
@[simp] theorem State.modLine_view (g : Line → Line) : (s.modLine g).view = s.view := rfl
@[simp] theorem State.modLine_adm (g : Line → Line) : (s.modLine g).adm = s.adm := rfl
@[simp] theorem State.modLine_pending (g : Line → Line) : (s.modLine g).pending = s.pending := rfl

/-! ### setReceiver -/

@[simp] theorem State.setReceiver_inReset (r : Receiver) : (s.setReceiver r).inReset = s.inReset := rfl
@[simp] theorem State.setReceiver_straps (r : Receiver) : (s.setReceiver r).straps = s.straps := rfl
@[simp] theorem State.setReceiver_ownClock (r : Receiver) : (s.setReceiver r).ownClock = s.ownClock := rfl
@[simp] theorem State.setReceiver_freeze (r : Receiver) : (s.setReceiver r).freeze = s.freeze := rfl
@[simp] theorem State.setReceiver_port (r : Receiver) : (s.setReceiver r).port = s.port := rfl
@[simp] theorem State.setReceiver_time (r : Receiver) : (s.setReceiver r).time = s.time := rfl
@[simp] theorem State.setReceiver_store (r : Receiver) : (s.setReceiver r).store = s.store := rfl
@[simp] theorem State.setReceiver_flows (r : Receiver) : (s.setReceiver r).flows = s.flows := rfl
@[simp] theorem State.setReceiver_legA (r : Receiver) : (s.setReceiver r).legA = s.legA := rfl
@[simp] theorem State.setReceiver_legB (r : Receiver) : (s.setReceiver r).legB = s.legB := rfl
@[simp] theorem State.setReceiver_view (r : Receiver) : (s.setReceiver r).view = s.view := rfl
@[simp] theorem State.setReceiver_adm (r : Receiver) : (s.setReceiver r).adm = s.adm := rfl
@[simp] theorem State.setReceiver_pending (r : Receiver) : (s.setReceiver r).pending = s.pending := rfl

/-! ### withdrawClaim -/

@[simp] theorem State.withdrawClaim_inReset : (s.withdrawClaim).inReset = s.inReset := rfl
@[simp] theorem State.withdrawClaim_straps : (s.withdrawClaim).straps = s.straps := rfl
@[simp] theorem State.withdrawClaim_ownClock : (s.withdrawClaim).ownClock = s.ownClock := rfl
@[simp] theorem State.withdrawClaim_freeze : (s.withdrawClaim).freeze = s.freeze := rfl
@[simp] theorem State.withdrawClaim_port : (s.withdrawClaim).port = s.port := rfl
@[simp] theorem State.withdrawClaim_time : (s.withdrawClaim).time = s.time := rfl
@[simp] theorem State.withdrawClaim_store : (s.withdrawClaim).store = s.store := rfl
@[simp] theorem State.withdrawClaim_flows : (s.withdrawClaim).flows = s.flows := rfl
@[simp] theorem State.withdrawClaim_legA : (s.withdrawClaim).legA = s.legA := rfl
@[simp] theorem State.withdrawClaim_legB : (s.withdrawClaim).legB = s.legB := rfl
@[simp] theorem State.withdrawClaim_view : (s.withdrawClaim).view = s.view := rfl
@[simp] theorem State.withdrawClaim_adm : (s.withdrawClaim).adm = s.adm := rfl
@[simp] theorem State.withdrawClaim_pending : (s.withdrawClaim).pending = s.pending := rfl

/-! ### setPeer -/

@[simp] theorem State.setPeer_inReset (i : StationId) (e : PeerEntry) : (s.setPeer i e).inReset = s.inReset := rfl
@[simp] theorem State.setPeer_straps (i : StationId) (e : PeerEntry) : (s.setPeer i e).straps = s.straps := rfl
@[simp] theorem State.setPeer_ownClock (i : StationId) (e : PeerEntry) : (s.setPeer i e).ownClock = s.ownClock := rfl
@[simp] theorem State.setPeer_freeze (i : StationId) (e : PeerEntry) : (s.setPeer i e).freeze = s.freeze := rfl
@[simp] theorem State.setPeer_port (i : StationId) (e : PeerEntry) : (s.setPeer i e).port = s.port := rfl
@[simp] theorem State.setPeer_time (i : StationId) (e : PeerEntry) : (s.setPeer i e).time = s.time := rfl
@[simp] theorem State.setPeer_store (i : StationId) (e : PeerEntry) : (s.setPeer i e).store = s.store := rfl
@[simp] theorem State.setPeer_flows (i : StationId) (e : PeerEntry) : (s.setPeer i e).flows = s.flows := rfl
@[simp] theorem State.setPeer_legA (i : StationId) (e : PeerEntry) : (s.setPeer i e).legA = s.legA := rfl
@[simp] theorem State.setPeer_legB (i : StationId) (e : PeerEntry) : (s.setPeer i e).legB = s.legB := rfl
@[simp] theorem State.setPeer_line (i : StationId) (e : PeerEntry) : (s.setPeer i e).line = s.line := rfl
@[simp] theorem State.setPeer_adm (i : StationId) (e : PeerEntry) : (s.setPeer i e).adm = s.adm := rfl
@[simp] theorem State.setPeer_pending (i : StationId) (e : PeerEntry) : (s.setPeer i e).pending = s.pending := rfl

/-! ### setStation -/

@[simp] theorem State.setStation_inReset (x : StationState) : (s.setStation x).inReset = s.inReset := rfl
@[simp] theorem State.setStation_straps (x : StationState) : (s.setStation x).straps = s.straps := rfl
@[simp] theorem State.setStation_ownClock (x : StationState) : (s.setStation x).ownClock = s.ownClock := rfl
@[simp] theorem State.setStation_freeze (x : StationState) : (s.setStation x).freeze = s.freeze := rfl
@[simp] theorem State.setStation_port (x : StationState) : (s.setStation x).port = s.port := rfl
@[simp] theorem State.setStation_time (x : StationState) : (s.setStation x).time = s.time := rfl
@[simp] theorem State.setStation_store (x : StationState) : (s.setStation x).store = s.store := rfl
@[simp] theorem State.setStation_flows (x : StationState) : (s.setStation x).flows = s.flows := rfl
@[simp] theorem State.setStation_legA (x : StationState) : (s.setStation x).legA = s.legA := rfl
@[simp] theorem State.setStation_legB (x : StationState) : (s.setStation x).legB = s.legB := rfl
@[simp] theorem State.setStation_line (x : StationState) : (s.setStation x).line = s.line := rfl
@[simp] theorem State.setStation_adm (x : StationState) : (s.setStation x).adm = s.adm := rfl
@[simp] theorem State.setStation_pending (x : StationState) : (s.setStation x).pending = s.pending := rfl

/-! ### noClaim -/

@[simp] theorem State.noClaim_inReset : (s.noClaim).inReset = s.inReset := rfl
@[simp] theorem State.noClaim_straps : (s.noClaim).straps = s.straps := rfl
@[simp] theorem State.noClaim_ownClock : (s.noClaim).ownClock = s.ownClock := rfl
@[simp] theorem State.noClaim_freeze : (s.noClaim).freeze = s.freeze := rfl
@[simp] theorem State.noClaim_port : (s.noClaim).port = s.port := rfl
@[simp] theorem State.noClaim_time : (s.noClaim).time = s.time := rfl
@[simp] theorem State.noClaim_store : (s.noClaim).store = s.store := rfl
@[simp] theorem State.noClaim_flows : (s.noClaim).flows = s.flows := rfl
@[simp] theorem State.noClaim_legA : (s.noClaim).legA = s.legA := rfl
@[simp] theorem State.noClaim_legB : (s.noClaim).legB = s.legB := rfl
@[simp] theorem State.noClaim_line : (s.noClaim).line = s.line := rfl
@[simp] theorem State.noClaim_view : (s.noClaim).view = s.view := rfl
@[simp] theorem State.noClaim_pending : (s.noClaim).pending = s.pending := rfl

/-! ### clockTick -/

@[simp] theorem State.clockTick_inReset : (s.clockTick).inReset = s.inReset := rfl
@[simp] theorem State.clockTick_straps : (s.clockTick).straps = s.straps := rfl
@[simp] theorem State.clockTick_freeze : (s.clockTick).freeze = s.freeze := rfl
@[simp] theorem State.clockTick_port : (s.clockTick).port = s.port := rfl
@[simp] theorem State.clockTick_time : (s.clockTick).time = s.time := rfl
@[simp] theorem State.clockTick_store : (s.clockTick).store = s.store := rfl
@[simp] theorem State.clockTick_flows : (s.clockTick).flows = s.flows := rfl
@[simp] theorem State.clockTick_line : (s.clockTick).line = s.line := rfl
@[simp] theorem State.clockTick_view : (s.clockTick).view = s.view := rfl
@[simp] theorem State.clockTick_adm : (s.clockTick).adm = s.adm := rfl
@[simp] theorem State.clockTick_pending : (s.clockTick).pending = s.pending := rfl

/-! ### What the accessors read after an update -/

@[simp] theorem State.flow_setFlow_self (f : FlowId) (x : Flow) : (s.setFlow f x).flow f = x := by
  simp [State.flow, State.setFlow]

theorem State.flow_setFlow_ne {f g : FlowId} (h : g ≠ f) (x : Flow) : (s.setFlow f x).flow g = s.flow g := by
  have : f.val ≠ g.val := fun e => h (Fin.ext e.symm)
  simp [State.flow, State.setFlow, this]

theorem State.flow_setFlow (f g : FlowId) (x : Flow) :
    (s.setFlow f x).flow g = if g = f then x else s.flow g := by
  split
  · subst_vars; simp
  · exact s.flow_setFlow_ne ‹_› x

@[simp] theorem State.setFlow_setFlow (f : FlowId) (x y : Flow) : (s.setFlow f x).setFlow f y = s.setFlow f y := by
  simp [State.setFlow]

@[simp] theorem State.setFlow_flow (f : FlowId) : s.setFlow f (s.flow f) = s := by
  simp [State.setFlow, State.flow]

/-- Two states with the same flows at every number have the same flow table. -/
theorem State.flows_ext {s t : State} (h : ∀ f, s.flow f = t.flow f) : s.flows = t.flows :=
  Vector.ext fun i hi => h ⟨i, hi⟩

@[simp] theorem State.leg_setLeg_self (l : Leg) (x : EgressLeg) : (s.setLeg l x).leg l = x := by cases l <;> rfl

theorem State.leg_setLeg_ne {l m : Leg} (h : m ≠ l) (x : EgressLeg) : (s.setLeg l x).leg m = s.leg m := by
  cases l <;> cases m <;> first | rfl | exact absurd rfl h

@[simp] theorem State.setLeg_setLeg (l : Leg) (x y : EgressLeg) : (s.setLeg l x).setLeg l y = s.setLeg l y := by
  cases l <;> rfl

@[simp] theorem State.setLeg_leg (l : Leg) : s.setLeg l (s.leg l) = s := by cases l <;> rfl

@[simp] theorem State.leg_setFlow (f : FlowId) (x : Flow) (l : Leg) : (s.setFlow f x).leg l = s.leg l := by
  cases l <;> rfl

@[simp] theorem State.flow_setLeg (l : Leg) (x : EgressLeg) (f : FlowId) : (s.setLeg l x).flow f = s.flow f := by
  cases l <;> rfl

@[simp] theorem State.flow_emit (o : Outcome) (f : FlowId) : (s.emit o).flow f = s.flow f := rfl

@[simp] theorem State.flow_release (id : Nat) (f : FlowId) : (s.release id).flow f = s.flow f := rfl

@[simp] theorem State.leg_emit (o : Outcome) (l : Leg) : (s.emit o).leg l = s.leg l := by cases l <;> rfl

@[simp] theorem State.leg_release (id : Nat) (l : Leg) : (s.release id).leg l = s.leg l := by cases l <;> rfl

@[simp] theorem State.stationTime_setFlow (f : FlowId) (x : Flow) : (s.setFlow f x).stationTime = s.stationTime := rfl

@[simp] theorem State.stationTime_setLeg (l : Leg) (x : EgressLeg) : (s.setLeg l x).stationTime = s.stationTime := by
  cases l <;> rfl

@[simp] theorem State.stationTime_emit (o : Outcome) : (s.emit o).stationTime = s.stationTime := rfl

@[simp] theorem State.stationTime_release (id : Nat) : (s.release id).stationTime = s.stationTime := rfl

@[simp] theorem State.emit_port (o : Outcome) : (s.emit o).port = s.port.add s.stationTime o := rfl

@[simp] theorem State.release_store (id : Nat) : (s.release id).store = s.store.release id := rfl

@[simp] theorem State.peer_setPeer_self (i : StationId) (e : PeerEntry) : (s.setPeer i e).peer i = e := by
  simp [State.peer, State.setPeer]

theorem State.peer_setPeer_ne {i j : StationId} (h : j ≠ i) (e : PeerEntry) : (s.setPeer i e).peer j = s.peer j := by
  have : i.val ≠ j.val := fun e => h (Fin.ext e.symm)
  simp [State.peer, State.setPeer, this]

@[simp] theorem State.setPeer_setPeer (i : StationId) (x y : PeerEntry) :
    (s.setPeer i x).setPeer i y = s.setPeer i y := by
  simp [State.setPeer]

/-! ### Parts of a flow by leg -/

@[simp] theorem Flow.queue_setQueue_self (x : Flow) (l : Leg) (q : List Nat) : (x.setQueue l q).queue l = q := by
  cases l <;> rfl

@[simp] theorem Flow.credit_setQueue (x : Flow) (l m : Leg) (q : List Nat) : (x.setQueue l q).credit m = x.credit m := by
  cases l <;> cases m <;> rfl

@[simp] theorem Flow.credit_setCredit_self (x : Flow) (l : Leg) (c : Nat) : (x.setCredit l c).credit l = c := by
  cases l <;> rfl

@[simp] theorem Flow.queue_setCredit (x : Flow) (l m : Leg) (c : Nat) : (x.setCredit l c).queue m = x.queue m := by
  cases l <;> cases m <;> rfl

@[simp] theorem FlowCounters.leg_setLeg_self (c : FlowCounters) (l : Leg) (x : LegCounts) : (c.setLeg l x).leg l = x := by
  cases l <;> rfl

end Sys2Proof.Machine
end

