-- ==== Sys2Proof/Laws/Ops.lean ====
section
/-! SUPPORT. One lemma per shared operation that says once what it can do; the provers cite these instead of
unfolding the operation. -/

namespace Sys2Proof.Machine

/-! ## Counters and lists -/

theorem raise_le (c d : Nat) : raise c d ≤ Config.counterMax := Nat.min_le_right _ _

theorem raise_of_le {c d : Nat} (h : c + d ≤ Config.counterMax) : raise c d = c + d := Nat.min_eq_left h

@[simp] theorem bump_eq (c : Nat) : raise c 1 = bump c := rfl

theorem updateFirst_length {α : Type} (p : α → Bool) (g : α → α) (xs : List α) :
    (updateFirst p g xs).length = xs.length := by
  induction xs with
  | nil => rfl
  | cons x xs ih =>
    simp only [updateFirst]
    split <;> simp [ih]

/-- Where no element satisfies the test the list stays. -/
theorem updateFirst_eq_self {α : Type} (p : α → Bool) (g : α → α) {xs : List α} (h : ∀ x ∈ xs, p x = false) :
    updateFirst p g xs = xs := by
  induction xs with
  | nil => rfl
  | cons x xs ih =>
    simp only [updateFirst, h x List.mem_cons_self, Bool.false_eq_true, if_false,
      ih fun y hy => h y (List.mem_cons_of_mem _ hy)]

/-- The first element that satisfies the test, and only it, is changed. -/
theorem updateFirst_append {α : Type} (p : α → Bool) (g : α → α) {xs : List α} (y : α) (ys : List α)
    (h : ∀ x ∈ xs, p x = false) (hy : p y = true) :
    updateFirst p g (xs ++ y :: ys) = xs ++ g y :: ys := by
  induction xs with
  | nil => simp [updateFirst, hy]
  | cons x xs ih =>
    simp only [List.cons_append, updateFirst, h x List.mem_cons_self, Bool.false_eq_true, if_false,
      ih fun z hz => h z (List.mem_cons_of_mem _ hz)]

/-! ## Outcomes of a command -/

theorem whenActing_acting {s t : State} (h : s.inReset = false) : whenActing s t = .next t := by
  simp [whenActing, h]

theorem whenActing_reset {s t : State} (h : s.inReset = true) : whenActing s t = .next s := by
  simp [whenActing, h]

theorem whenever_true {s t : State} {c : Bool} (h : s.inReset = false) (hc : c = true) :
    whenever c s t = .next t := by
  simp [whenever, h, hc]

theorem whenever_false {s t : State} {c : Bool} (h : s.inReset = true ∨ c = false) : whenever c s t = .next s := by
  rcases h with h | h <;> simp [whenever, h]

theorem onRecord_ready {s t : State} (h : s.intakeReady = true) : onRecord s t = .next t := by
  simp [onRecord, h]

theorem onRecord_held {s t : State} (h : s.intakeReady = false) : onRecord s t = .next s := by
  simp [onRecord, h]

/-- Intake-ready is given exactly outside reset with 8 cells or more in the free pool (R39, R168). -/
theorem State.intakeReady_iff (s : State) :
    s.intakeReady = true ↔ s.inReset = false ∧ 8 ≤ s.store.freeCells := by
  rw [State.intakeReady, Bool.and_eq_true, decide_eq_true_iff]
  simp [Config.readyCells]

/-- A request is open at the calendar exactly for a fitted leg outside reset that holds it open (R84, R87). -/
theorem State.requestOpen_iff (s : State) (l : Leg) :
    s.requestOpen l = true ↔ s.inReset = false ∧ s.fitted l = true ∧ (s.leg l).request = true := by
  simp [State.requestOpen, and_assoc]

/-! ## The outcome queue (R165) -/

theorem Port.add_joins {p : Port} (h : p.outcomes.length < 64) (time : Nat) (o : Outcome) :
    p.add time o = { p with outcomes := p.outcomes ++ [⟨p.lossMark, time, o⟩], lossMark := false } := by
  simp [Port.add, Config.outcomeMax, h]

theorem Port.add_drops {p : Port} (h : 64 ≤ p.outcomes.length) (time : Nat) (o : Outcome) :
    p.add time o = { p with lossMark := true } := by
  simp [Port.add, Config.outcomeMax, Nat.not_lt.mpr h]

/-- What a record's creation can do to the queue. -/
theorem Port.add_cases (p : Port) (time : Nat) (o : Outcome) :
    (p.outcomes.length < 64 ∧
      p.add time o = { p with outcomes := p.outcomes ++ [⟨p.lossMark, time, o⟩], lossMark := false }) ∨
    (64 ≤ p.outcomes.length ∧ p.add time o = { p with lossMark := true }) := by
  rcases Nat.lt_or_ge p.outcomes.length 64 with h | h
  · exact .inl ⟨h, p.add_joins h time o⟩
  · exact .inr ⟨h, p.add_drops h time o⟩

@[simp] theorem Port.add_delivering (p : Port) (time : Nat) (o : Outcome) :
    (p.add time o).delivering = p.delivering := by
  rcases p.add_cases time o with ⟨-, e⟩ | ⟨-, e⟩ <;> rw [e]

/-! ## The Cell Store (R38, R40) -/

theorem Store.find_some {st : Store} {id : Nat} {u : Bundle} (h : st.find id = some u) :
    u ∈ st.units ∧ u.id = id :=
  ⟨List.mem_of_find?_eq_some h, by simpa using List.find?_some h⟩

/-- A release of a unit that no place holds changes nothing. -/
theorem Store.release_missing {st : Store} {id : Nat} (h : st.find id = none) : st.release id = st := by
  simp [Store.release, h]

/-- The last hold of a unit returns its cells. -/
theorem Store.release_last {st : Store} {id : Nat} {u : Bundle} (h : st.find id = some u) (hl : u.holders ≤ 1) :
    st.release id =
      { st with freeCells := st.freeCells + u.cells, units := st.units.eraseP (fun v => v.id == id) } := by
  simp [Store.release, h, hl]

/-- Another hold of a unit lowers its holder count. -/
theorem Store.release_held {st : Store} {id : Nat} {u : Bundle} (h : st.find id = some u) (hl : 1 < u.holders) :
    st.release id =
      { st with units :=
          updateFirst (fun v => v.id == id) (fun v => { v with holders := v.holders - 1 }) st.units } := by
  simp [Store.release, h, Nat.not_le.mpr hl]

/-- A release never takes cells from the free pool, and leaves the counters and the next number. -/
theorem Store.release_pool (st : Store) (id : Nat) :
    st.freeCells ≤ (st.release id).freeCells ∧ (st.release id).nextId = st.nextId ∧
      (st.release id).stray = st.stray ∧ (st.release id).badLength = st.badLength := by
  unfold Store.release
  split
  · simp
  · split <;> simp

/-- The holds of several units released change the Cell Store only. -/
theorem State.releaseAll_eq (s : State) (ids : List Nat) :
    s.releaseAll ids = { s with store := ids.foldl Store.release s.store } := by
  unfold State.releaseAll
  induction ids generalizing s with
  | nil => rfl
  | cons id ids ih => simp only [List.foldl_cons, ih]; rfl

@[simp] theorem State.flow_releaseAll (s : State) (ids : List Nat) (f : FlowId) :
    (s.releaseAll ids).flow f = s.flow f := by
  rw [State.releaseAll_eq]; rfl

@[simp] theorem State.leg_releaseAll (s : State) (ids : List Nat) (l : Leg) : (s.releaseAll ids).leg l = s.leg l := by
  rw [State.releaseAll_eq]; cases l <;> rfl

/-! ## Requests of the legs (R98) -/

@[simp] theorem EgressLeg.settle_service (x : EgressLeg) (freeze : Bool) : (x.settle freeze).service = x.service := rfl

@[simp] theorem EgressLeg.settle_hand (x : EgressLeg) (freeze : Bool) : (x.settle freeze).hand = x.hand := rfl

theorem EgressLeg.settle_request (x : EgressLeg) (freeze : Bool) :
    (x.settle freeze).request = true ↔ x.hand = none ∧ freeze = false ∧ x.service ≠ .stalled := by
  cases freeze <;> simp [EgressLeg.settle, EgressLeg.mayServe]

theorem State.modLegSettled_eq (s : State) (l : Leg) (g : EgressLeg → EgressLeg) :
    s.modLegSettled l g = s.setLeg l ((g (s.leg l)).settle s.freeze) := rfl

/-! ## Operand forms of the directives (R160) -/

theorem flowOf_known {b : Byte} {f : FlowId} (h : b.toNat = f.val) : flowOf b = some f := by
  simp [flowOf, h]

theorem flowOf_unknown {b : Byte} (h : 63 < b.toNat) : flowOf b = none := by
  simp [flowOf, Nat.not_lt.mpr h]

theorem State.withFlow_known (s : State) {b : Byte} {f : FlowId} (h : b.toNat = f.val) (d : Byte)
    (act : FlowId → State) : s.withFlow b d act = act f := by
  simp [State.withFlow, flowOf_known h]

theorem State.withFlow_unknown (s : State) {b : Byte} (h : 63 < b.toNat) (d : Byte) (act : FlowId → State) :
    s.withFlow b d act = s.refuse .badFlow b d := by
  simp [State.withFlow, flowOf_unknown h]

/-! ## Station time (R19) -/

theorem State.now_some {s : State} {now : Nat} (h : s.now? = some now) :
    s.time.valid = true ∧ ∃ c, s.time.cursor = some c ∧ now = 32 * c ∧ s.stationTime = now := by
  unfold State.now? at h
  split at h
  · cases hc : s.time.cursor with
    | none => simp [hc] at h
    | some c =>
      simp only [hc, Option.map_some, Option.some.injEq] at h
      exact ⟨‹_›, c, rfl, h.symm, by simp [State.stationTime, hc, h]⟩
  · cases h

/-! ## The send list (R114, R115) -/

/-- A new entry stands in the list after the addition, and every entry that stood there stays. -/
theorem insertEntry_mem (n : Notice) (es : List SendEntry) (x : SendEntry) :
    x ∈ insertEntry n es ↔ x = ⟨n, false, false⟩ ∨ x ∈ es := by
  induction es with
  | nil => simp [insertEntry]
  | cons e es ih =>
    simp only [insertEntry]
    split
    · simp
    · simp only [List.mem_cons, ih]; tauto

/-- The list stays in order of kind (R114). -/
theorem insertEntry_sorted (n : Notice) (es : List SendEntry)
    (h : es.Pairwise (fun a b => a.notice.rank ≤ b.notice.rank)) :
    (insertEntry n es).Pairwise (fun a b => a.notice.rank ≤ b.notice.rank) := by
  induction es with
  | nil => simp [insertEntry]
  | cons e es ih =>
    rw [List.pairwise_cons] at h
    simp only [insertEntry]
    split
    · rename_i hlt
      refine List.pairwise_cons.mpr ⟨fun b hb => ?_, List.pairwise_cons.mpr h⟩
      rcases List.mem_cons.mp hb with rfl | hb
      · exact hlt.le
      · exact hlt.le.trans (h.1 b hb)
    · rename_i hge
      refine List.pairwise_cons.mpr ⟨fun b hb => ?_, ih h.2⟩
      rcases (insertEntry_mem n es b).mp hb with rfl | hb
      · exact Nat.le_of_not_lt hge
      · exact h.1 b hb

end Sys2Proof.Machine
end

