-- ==== Sys2Proof/Laws/PerInstr.lean ====
section
/-! SUPPORT. Statements made per instruction: the length field of the record a command arrives in (spec/12,
Intake tag). -/

namespace Sys2Proof.Laws

theorem bigEndian_length (w x : Nat) : (Machine.bigEndian w x).length = w := by
  induction w generalizing x with
  | zero => rfl
  | succ w ih => simp [Machine.bigEndian, ih]

/-- Two bytes, most significant first, spell any number below 65536. -/
theorem fromBytes_bigEndian_two {x : Nat} (h : x < 65536) : Machine.fromBytes (Machine.bigEndian 2 x) = x := by
  simp [Machine.bigEndian, Machine.fromBytes]
  omega

theorem declareBody_length (d : Declaration) : (Machine.declareBody d).length = 30 := by
  simp [Machine.declareBody, bigEndian_length]

theorem lengthFits_iff (bytes : List Byte) : lengthFits bytes = true ↔ bytes.length < 65536 := by
  simp [lengthFits]

/-- The length field of a directive's record is the length of its body. -/
theorem directiveRecord_length_field {body : List Byte} (h : body.length < 65536) :
    Machine.fromBytes (((Machine.directiveRecord body).drop 2).take 2) =
      (Machine.directiveRecord body).length - 4 := by
  have e : ((Machine.directiveRecord body).drop 2).take 2 = Machine.bigEndian 2 body.length := by
    simp [Machine.directiveRecord, Machine.bigEndian]
  rw [e, fromBytes_bigEndian_two h]
  simp [Machine.directiveRecord, bigEndian_length]

namespace RecordLength

/-- The length field of the record that brings a well-formed command is the number of bytes after the tag. -/
def Statement (i : Instr) : Prop :=
  ∀ bs, Machine.writeRecord i = some bs → i.wellFormed = true →
    Machine.fromBytes ((bs.drop 2).take 2) = bs.length - 4

/-- A command that is no record of the intake stream. -/
theorem of_none {i : Instr} (h : Machine.writeRecord i = none) : Statement i := by
  intro bs hb
  rw [h] at hb
  cases hb

/-- A directive. -/
theorem of_directive {i : Instr} {body : List Byte}
    (h : Machine.writeRecord i = some (Machine.directiveRecord body))
    (hb : i.wellFormed = true → body.length < 65536) : Statement i := by
  intro bs hbs hw
  rw [h, Option.some.injEq] at hbs
  exact hbs ▸ directiveRecord_length_field (hb hw)


theorem resetAssert : Statement .resetAssert := of_none rfl

theorem resetEnd (st : Straps) (a : Bool) (b : Bool) (z : Bool) : Statement (.resetEnd st a b z) := of_none rfl

theorem packetArrival (f : Byte) (x : Bool) (y : Bool) (z : Bool) (bytes : List Byte) : Statement (.packetArrival f x y z bytes) := by
  intro bs hbs hw
  rw [Machine.writeRecord, Option.some.injEq] at hbs
  subst hbs
  have e := fromBytes_bigEndian_two ((lengthFits_iff bytes).mp hw)
  simpa [Machine.bigEndian] using e

theorem declare (d : Declaration) : Statement (.declare d) := of_directive rfl fun _ => by rw [declareBody_length]; decide

theorem close (f : Byte) : Statement (.close f) := of_directive rfl fun _ => by simp

theorem abandon (f : Byte) : Statement (.abandon f) := of_directive rfl fun _ => by simp

theorem queryFlow (f : Byte) : Statement (.queryFlow f) := of_directive rfl fun _ => by simp

theorem queryPeers : Statement .queryPeers := of_directive rfl fun _ => by decide

theorem queryStation : Statement .queryStation := of_directive rfl fun _ => by decide

theorem legControlOut (l : Byte) : Statement (.legControlOut l) := of_directive rfl fun _ => by simp

theorem legControlIn (l : Byte) : Statement (.legControlIn l) := of_directive rfl fun _ => by simp

theorem unknownDirective (body : List Byte) : Statement (.unknownDirective body) :=
  of_directive rfl fun h =>
  (lengthFits_iff body).mp (Bool.and_eq_true_iff.mp h).1

theorem outcomeDeliveryStart : Statement .outcomeDeliveryStart := of_none rfl

theorem outcomeDeliveryEnd (r : Bool) : Statement (.outcomeDeliveryEnd r) := of_none rfl

theorem timeStepStrobe : Statement .timeStepStrobe := of_none rfl

theorem timeReading (v : Bool) (x : BitVec 64) : Statement (.timeReading v x) := of_none rfl

theorem binderExamination (f : FlowId) : Statement (.binderExamination f) := of_none rfl

theorem calendarNamesEntry (l : Leg) : Statement (.calendarNamesEntry l) := of_none rfl

theorem take (l : Leg) : Statement (.take l) := of_none rfl

theorem retry (l : Leg) : Statement (.retry l) := of_none rfl

theorem fault (l : Leg) : Statement (.fault l) := of_none rfl

theorem retryReoffer (l : Leg) : Statement (.retryReoffer l) := of_none rfl

theorem permitFall (l : Leg) : Statement (.permitFall l) := of_none rfl

theorem permitRise (l : Leg) : Statement (.permitRise l) := of_none rfl

theorem stallTimeout (l : Leg) : Statement (.stallTimeout l) := of_none rfl

theorem freezeRise : Statement .freezeRise := of_none rfl

theorem freezeFall : Statement .freezeFall := of_none rfl

theorem drainComplete (f : FlowId) : Statement (.drainComplete f) := of_none rfl

theorem drainLimit (f : FlowId) : Statement (.drainLimit f) := of_none rfl

theorem claimTimeout (b : Bool) : Statement (.claimTimeout b) := of_none rfl

theorem noticeStart (n : Nat) : Statement (.noticeStart n) := of_none rfl

theorem arbitrationLoss : Statement .arbitrationLoss := of_none rfl

theorem noticeComplete : Statement .noticeComplete := of_none rfl

theorem noticeReceived (c : Byte) : Statement (.noticeReceived c) := of_none rfl

theorem framingError : Statement .framingError := of_none rfl

theorem unknownHeader (c : Byte) : Statement (.unknownHeader c) := of_none rfl

theorem wireFree : Statement .wireFree := of_none rfl

theorem breakStart (n : Nat) : Statement (.breakStart n) := of_none rfl

theorem breakComplete (b : Bool) : Statement (.breakComplete b) := of_none rfl

theorem breakHeard : Statement .breakHeard := of_none rfl

theorem stuckLine : Statement .stuckLine := of_none rfl

theorem wireRestored : Statement .wireRestored := of_none rfl

theorem listenInTimeout : Statement .listenInTimeout := of_none rfl

theorem refreshTick : Statement .refreshTick := of_none rfl

theorem characterReceived (c : Byte) (m : Bool) : Statement (.characterReceived c m) := of_none rfl

end RecordLength

end Sys2Proof.Laws
end

