-- ==== Sys2Proof/Tests/Slice0.lean ====
section
/-! SUPPORT. Named tests of single commands on small states, with the figures of the spec's worked examples,
the smoke tests of WellFormed, and for each statement of Obligations.lean a state and operands that meet its
hypotheses, clause by clause. -/

namespace Sys2Proof.Tests

open Sys2Proof Sys2Proof.Machine

set_option maxRecDepth 40000

/-! ## Small states -/

/-- Station 5, PLR 2, CAP 3, leg B fitted. -/
def straps (solo : Bool) : Straps := ⟨5, 2, 3, solo, true⟩

/-- After a full reset with both permits on and freeze low. -/
def base (solo : Bool) : State := State.afterReset (straps solo) true true false []

def inStation (v : StationState) (s : State) : State := { s with view := { s.view with station := v } }

/-- A station in LISTEN_IN or another state, its break sent and its receiver in HUNT. -/
def station (v : StationState) : State :=
  inStation v { base false with line := { (base false).line with pendingBreak := false, receiver := .hunt } }

/-- VALID time with the cursor on the slot that starts at this time. -/
def timed (now : Nat) (s : State) : State := { s with time := ⟨some (now / 32), some now, false, true⟩ }

/-- The state a command answers. -/
def after (c : Instr) (s : State) : State :=
  match exec c s with
  | .next t => t
  | _ => s

/-- The gapped raster flow of spec/02's worked case, as flow 7. -/
def rasterBody : Declaration :=
  { flow := 7, cls := 2, legs := 3, pn := 50050000, pd := 3, n := 4320, a := 1080, t := 1125, o := 20000,
    bmax := 4, w := 500, smax := 1400, u := 1, qmax := 64 }

def raster : Params := declaredParams rasterBody .rasterGapped .dual

/-- The essence flow of spec/02's worked case, as flow 3. -/
def essenceBody : Declaration :=
  { flow := 3, cls := 0, legs := 1, pn := 1000000, pd := 1, n := 8, a := 1, t := 1, o := 0, bmax := 2, w := 100,
    smax := 200, u := 1, qmax := 8 }

def essence : Params := declaredParams essenceBody .essence .a

/-- The flow of spec/03's worked example: U = 3, Qmax = 3, Smax = 1,400. -/
def runs : Params := { raster with legs := .a, u := 3, qmax := 3 }

def flowIn (v : FlowState) (p : Params) : Flow :=
  { Flow.afterReset with state := v, params := p, derived := p.derive }

/-- A flow LOCKED at (k,j). -/
def lockedAt (k j : Nat) (x : Flow) : Flow :=
  { x with lock := some ⟨k, j, k * x.params.pn / x.params.pd, k * x.params.pn % x.params.pd,
                         j * x.params.sn / x.params.sd, j * x.params.sn % x.params.sd, k⟩ }

/-- A unit of one packet of 64 bytes. -/
def bundle (id : Nat) (f : FlowId) (frameStart : Bool) (holders : Nat) (due : Option Nat) : Bundle :=
  ⟨id, f, [List.replicate 64 0#8], frameStart, holders, due⟩

def holding (us : List Bundle) (s : State) : State :=
  { s with store := { s.store with
      units := us, nextId := us.length, freeCells := 8192 - (us.map Bundle.cells).sum } }

/-- Flow f with one unit at the head of its intake queue, at this time. -/
def headed (f : FlowId) (x : Flow) (frameStart : Bool) (now : Nat) : State :=
  timed now (holding [bundle 0 f frameStart 1 none] ((base true).setFlow f { x with intakeQ := [0] }))

/-- Flow f with one unit due at `due` in its leg A queue and one credit there, at this time. -/
def waiting (f : FlowId) (x : Flow) (due now : Nat) : State :=
  timed now (holding [bundle 0 f true 1 (some due)] ((base true).setFlow f { x with queueA := [0], creditA := 1 }))

/-- Leg A with a unit of two packets of flow 7 in hand. -/
def inHand (index retries : Nat) (phase : Phase) : State :=
  holding [⟨0, 7, [List.replicate 64 0#8, List.replicate 300 0#8], true, 1, some 0⟩]
    { (base true).setFlow 7 (flowIn .running raster) with
      legA := { (base true).legA with hand := some ⟨0, index, retries, phase, false⟩, request := false } }

/-- Flow 7 claims and its CLAIM is on the wire or pending. -/
def claimingState (cancel onWire : Bool) (waits : List FlowId) (v : StationState) : State :=
  let s := (station v).setFlow 7 { flowIn .claiming raster with cancel := cancel }
  let s := waits.foldl (fun t f => t.setFlow f (flowIn .claimWait essence)) s
  { s with
    adm := { s.adm with claiming := some 7, claimTimer := some 500000000, claimQueue := waits }
    line := { s.line with
      sendList := [⟨.claim 3 2950, onWire, false⟩]
      sending := if onWire then some (.claim 3 2950) else none } }

/-- The receiver inside a notice, with these characters. -/
def receiving (cs : List Byte) (v : StationState) : State :=
  { station v with line := { (station v).line with receiver := .inNotice cs } }

/-! ## WellFormed refuses what the stream cannot carry -/

/-- A packet of 65,535 bytes is well formed and one of 65,536 is not. -/
theorem test_wellFormed_packet_length (n : Nat) :
    (Instr.packetArrival 7 false false false (List.replicate n 0#8)).wellFormed = decide (n < 65536) := by
  simp [Instr.wellFormed, lengthFits]

theorem test_wellFormed_unknown_length (n : Nat) (h : 65536 ≤ n) :
    (Instr.unknownDirective (List.replicate n 9#8)).wellFormed = false := by
  simp [Instr.wellFormed, lengthFits, Nat.not_lt.mpr h]

/-- A body that check 1 of R160 accepts is no unknown directive. -/
theorem test_wellFormed_known_directive :
    (Instr.unknownDirective [2, 7]).wellFormed = false ∧ (Instr.unknownDirective [6]).wellFormed = false ∧
      (Instr.unknownDirective [7, 1, 2]).wellFormed = false ∧
      (Instr.unknownDirective [7, 1, 3]).wellFormed = true ∧ (Instr.unknownDirective []).wellFormed = true := by
  decide

/-- No row of the table has bits. -/
theorem test_no_word_spells_a_command : decodeTableWord 8 5 = none ∧ State.reset.withFetchWord 8 5 = State.reset :=
  ⟨rfl, rfl⟩

/-! ## Formats (spec/12) -/

/-- Spec/12: a CLAIM of 2,950 on mask 1 from station 3 is 0x53, 1, 0, 11, 134, 27; spec/07: the check of
station 7's YIELD of 15 is 201. -/
theorem test_notice_characters :
    (Notice.claim 1 2950).chars 3 = [0x53, 1, 0, 11, 134, 27] ∧ (Notice.yield 1 15).chars 7 = [0x27, 1, 0, 0, 15, 201] := by
  decide

/-- Spec/07's example: 0x54 loses to 0x27 at the second data bit sent, LOAD 0x92 to 0x54 at the first. -/
theorem test_header_arbitration :
    lossAt (charBits 0x54 true) (charBits 0x27 true) = some 2 ∧
      lossAt (charBits 0x92 true) (charBits 0x54 true) = some 1 := by decide

/-- The lengths of the outcome records (spec/12): the common part of 14 bytes and the body. -/
theorem test_outcome_lengths :
    (Record.bytes ⟨true, 5, .flowReport 7 ((base true).flowReport 7)⟩).length = 124 ∧
      (Record.bytes ⟨true, 5, .stationReport 5 (base true).stationReport⟩).length = 128 ∧
      (Record.bytes ⟨false, 5, .flowClosed 7 .drained .essence .a FlowCounters.zero⟩).length = 102 ∧
      Record.bytes ⟨true, 258, .directiveRefused .badLeg 3 7⟩ =
        [12, 128, 3, 3, 0, 1, 0, 0, 0, 0, 0, 0, 1, 2, 7] := by decide

/-- An intake record with unused tag bits set is read by its length and code. -/
theorem test_record_read :
    readRecord [0xF8, 99, 0, 3, 7, 2, 1] = some (.legControlOut 2) ∧
      readRecord [0x06, 12, 0, 1, 255] = some (.packetArrival 12 true true false [255]) ∧
      readRecord [0x80, 0, 0, 2, 5, 0] = some (.unknownDirective [5, 0]) ∧ readRecord [0x80, 0, 0, 2, 5] = none := by
  decide

theorem test_witness_RecordsReadBackAsWritten :
    (Instr.declare rasterBody).wellFormed = true ∧
      (writeRecord (.declare rasterBody)).map List.length = some 34 := by decide

theorem test_witness_NoticesReadBackAsSent :
    (255 < 256 ∧ 16777215 < 16777216) ∧ readNotice ((Notice.load 16777215 0 255).chars 15) = some (.load 16777215 0 255) := by
  decide

/-! ## The queue and reset -/

theorem test_witness_StepRunsTheFrontCommand :
    State.reset.pending = [] ∧ step State.reset = .next State.reset ∧
      ({ State.reset with pending := [.queryStation] } : State).pending = .queryStation :: [] := ⟨rfl, rfl, rfl⟩

theorem test_witness_EveryCommandAnswersNext : (base true).port.outcomes.length ≤ 64 := by decide

theorem test_witness_NoBlockActsInReset :
    (after .resetAssert (base true)).inReset = true ∧
      (∀ st a b z, Instr.queryStation ≠ .resetEnd st a b z) ∧
      after .queryStation (after .resetAssert (base true)) = after .resetAssert (base true) :=
  ⟨rfl, by intros; simp, rfl⟩

theorem test_witness_ResetEndSetsEveryBlock :
    (after (.resetEnd (straps false) true false true) State.reset).fitted .b = true ∧
      (after (.resetEnd (straps false) true false true) State.reset).legB.stall = some 10000000 := by decide

/-! ## The Flow Table -/

theorem test_witness_DeclareRefusedForBusyOrUnknownFlow :
    let s := (base true).setFlow 7 (flowIn .draining raster)
    s.intakeReady = true ∧ rasterBody.flow.toNat = (7 : FlowId).val ∧ (s.flow 7).state ≠ .free ∧
      (after (.declare rasterBody) s).port.outcomes.map Record.outcome = [.directiveRefused .flowBusy 7 1] ∧
      63 < ({ rasterBody with flow := 64 } : Declaration).flow.toNat ∧
      (after (.declare { rasterBody with flow := 64 }) s).port.outcomes.map Record.outcome =
        [.directiveRefused .badFlow 64 1] := by decide

/-- Each check of R5 fails first for one DECLARE and passes for the raster flow; O at its largest passes. -/
theorem test_witness_DeclareValidatedInOrder :
    (base true).intakeReady = true ∧ ((base true).flow 7).state = .free ∧
      [validate (straps true) { rasterBody with cls := 3, legs := 0 },
       validate (straps true) { rasterBody with legs := 4 },
       validate (straps true) { rasterBody with pn := 2999999, n := 0 },
       validate (straps true) { rasterBody with n := 0 },
       validate (straps true) { rasterBody with cls := 1 },
       validate (straps true) { rasterBody with o := 16683333 },
       validate (straps true) { rasterBody with bmax := 17 },
       validate (straps true) { rasterBody with smax := 63 },
       validate (straps true) { rasterBody with u := 5 },
       validate (straps true) { rasterBody with qmax := 1025 },
       validate (straps true) { rasterBody with n := 65535 , a := 1, t := 4095 },
       validate (straps true) { rasterBody with u := 4 },
       validate (straps true) { rasterBody with o := 16683332 }] =
      [.inl .badClass, .inl .badLegs, .inl .badPeriod, .inl .badCount, .inl .badRatio, .inl .badOffset,
       .inl .badBurst, .inl .badSize, .inl .badUnit, .inl .badQueue, .inl .badRate, .inl .loadTooLarge,
       .inr { raster with o := 16683332 }] := by decide

/-- Spec/02's figures of the raster and essence flows. -/
theorem test_declare_derives :
    raster.derive = ⟨16683333, 1, 14580000, 3707, 5940000, 2950, 500000⟩ ∧
      essence.derive = ⟨1000000, 0, 8, 125000, 0, 15, 100000⟩ := by decide

theorem test_witness_AcceptedDeclareActsByStationState :
    validate (straps false) rasterBody = .inr raster ∧ validate (straps true) rasterBody = .inr raster ∧
      (∀ v ∈ [StationState.listenIn, .active, .isolated, .duplicate], (station v).intakeReady = true ∧
        ((station v).flow 7).state = .free ∧ (station v).view.station = v) ∧
      (station .active).adm.claiming = none ∧ (station .active).adm.claimQueue = [] ∧
      (after (.declare rasterBody) (station .active)).adm.claimTimer = some 500000000 ∧
      (claimingState false false [] .active).adm.claiming ≠ none ∧
      ((after (.declare { rasterBody with flow := 9 }) (claimingState false false [] .active)).adm.claimQueue) = [9] ∧
      (base true).legSum .a + raster.load ≤ admissionLimit 3 ∧ (base true).legSum .b + raster.load ≤ admissionLimit 3 ∧
      (after (.declare rasterBody) (base true)).adm.ownB = 2950 := by decide

/-- Spec/02's capacity test: a fourth raster flow on 8,850 fails, an essence flow on leg A passes. -/
theorem test_declare_solo_share :
    let s := { base true with adm := { (base true).adm with ownA := 8850, ownB := 8850 } }
    (after (.declare rasterBody) s).port.outcomes.map Record.outcome = [.flowRefused 7 .noShare] ∧
      (after (.declare essenceBody) s).adm.ownA = 8865 ∧ (after (.declare essenceBody) s).adm.ownB = 8850 := by decide

theorem test_witness_CloseStartsTheDrain :
    let empty := (base true).setFlow 7 (flowIn .armed raster)
    let full := headed 7 (flowIn .running raster) true 0
    empty.intakeReady = true ∧ (empty.flow 7).state = .armed ∧ (empty.flow 7).intakeQ = [] ∧
      ((after (.close 7) empty).flow 7).state = .free ∧
      full.intakeReady = true ∧ (full.flow 7).state = .running ∧ (full.flow 7).intakeQ = [0] ∧
      ((after (.close 7) full).flow 7).drain = some 1000000000 := by decide

theorem test_witness_CloseAndAbandonBeforeAdmission :
    ((claimingState false false [9] .active).flow 9).state = .claimWait ∧
      (after (.close 9) (claimingState false false [9] .active)).adm.claimQueue = [] ∧
      ((claimingState false true [] .active).flow 7).state = .claiming ∧
      (claimingState false true [] .active).line.claimOnWire = true ∧
      ((after (.abandon 7) (claimingState false true [] .active)).flow 7).cancel = true ∧
      (claimingState false false [] .active).line.claimOnWire = false ∧
      (claimingState false false [] .active).adm.claimQueue = [] ∧
      (after (.close 7) (claimingState false false [] .active)).line.sendList = [] ∧
      (claimingState false false [9] .active).adm.claimQueue = 9 :: [] ∧ (9 : FlowId) ≠ 7 ∧
      (after (.close 7) (claimingState false false [9] .active)).adm.claiming = some 9 := by decide

theorem test_witness_AbandonFlushesTheFlow :
    let s := holding [bundle 0 7 true 2 (some 0), bundle 1 7 true 1 (some 0)]
      ((base true).setFlow 7 { lockedAt 60 3 (flowIn .running raster) with queueA := [0], queueB := [0, 1] })
    s.intakeReady = true ∧ (s.flow 7).state = .running ∧
      ((after (.abandon 7) s).flow 7).counters.closeFlush = 2 ∧ (after (.abandon 7) s).store.freeCells = 8192 := by decide

theorem test_witness_DrainsEnd :
    let done := (base true).setFlow 7 { flowIn .draining raster with drain := some 1000000000 }
    let late := headed 7 { flowIn .draining raster with drain := some 1000000000 } true 0
    done.inReset = false ∧ (done.flow 7).state = .draining ∧ (done.flow 7).intakeQ = [] ∧ (done.flow 7).queueA = [] ∧
      (done.flow 7).queueB = [] ∧ (done.flow 7).slot.units = [] ∧ (done.flow 7).drain = some 1000000000 ∧
      ((after (.drainComplete 7) done).flow 7).state = .free ∧
      (late.flow 7).drain = some 1000000000 ∧ ((after (.drainLimit 7) late).flow 7).counters.closeFlush = 1 ∧
      (after (.drainLimit 7) late).ownClock = 1000000000 := by decide

theorem test_witness_QueriesReportAndChangeNothing_flow :
    let s := (base true).setFlow 63 { flowIn .draining raster with drain := some 1000001 }
    s.intakeReady = true ∧ (63 : Byte).toNat = (63 : FlowId).val ∧ (s.flowReport 63).drainMs = 2 ∧
      (after (.queryFlow 63) s).port.outcomes.length = 1 := by decide

/-! ## The Card Port -/

theorem test_witness_QueriesReportAndChangeNothing_station :
    let s := (station .active).setPeer 9 ⟨.stale, 10, 20, 1, 4⟩
    s.intakeReady = true ∧ (s.peer 9).state ≠ .absent ∧
      (after .queryPeers s).port.outcomes.map Record.outcome =
        [.peerReport 9 ⟨.stale, 10, 20, 1, 4⟩, .peerEnd 5 .active 0 0 0 1] ∧
      (after .queryStation s).port.outcomes.length = 1 := by decide

theorem test_witness_RefusedDirectivesChangeNothing :
    let s := ((base true).setFlow 7 (flowIn .draining raster)).setFlow 8 { flowIn .claiming raster with cancel := true }
    s.intakeReady = true ∧ ¬ ((3 : Byte) = 1#8 ∨ ((3 : Byte) = 2#8 ∧ s.straps.legb = true)) ∧
      63 < (64 : Byte).toNat ∧ (s.flow 0).state = .free ∧ (s.flow 7).state = .draining ∧
      (s.flow 8).state = .claiming ∧ (s.flow 8).cancel = true ∧
      (after (.abandon 8) s).port.outcomes.map Record.outcome = [.directiveRefused .closing 8 3] ∧
      (after (.unknownDirective []) s).port.outcomes.map Record.outcome = [.directiveRefused .unknownDirective 255 0] := by
  decide

/-- R39: at 7 free cells no record is taken, and at 8 one is. -/
theorem test_witness_RefusedDirectivesChangeNothing_withheld :
    let pool (n : Nat) : State := { base true with store := { (base true).store with freeCells := n } }
    (pool 7).intakeReady = false ∧ after .queryStation (pool 7) = pool 7 ∧ (pool 8).intakeReady = true ∧
      (after .queryStation (pool 8)).port.outcomes.length = 1 := by decide

/-- Spec/10's example: 62 records wait, QUERY_PEERS makes four, two join and the rest are lost. -/
theorem test_witness_OutcomesJoinAndAreDelivered_join :
    let p : Port := ⟨List.replicate 62 ⟨false, 0, .timeEvent .step⟩, false, false⟩
    let q := [Outcome.peerEvent 3 .joined, .peerEvent 9 .joined, .peerEvent 12 .joined, .timeEvent .invalid].foldl
      (fun x o => x.add 0 o) p
    p.outcomes.length ≤ 64 ∧ q.outcomes.length = 64 ∧ q.lossMark = true ∧
      (({ q with outcomes := q.outcomes.tail }).add 0 (.peerEvent 9 .stale)).outcomes.getLast? =
        some ⟨true, 0, .peerEvent 9 .stale⟩ := by decide

theorem test_witness_OutcomesJoinAndAreDelivered_delivery :
    let s := after .queryStation (base true)
    let d := after .outcomeDeliveryStart s
    s.inReset = false ∧ s.port.delivering = false ∧ s.port.outcomes ≠ [] ∧ d.port.delivering = true ∧
      d.port.outcomes.length = 1 ∧ (after (.outcomeDeliveryEnd true) d).port = ⟨[], false, false⟩ := by decide

/-! ## Station time -/

theorem test_witness_TimePortWithoutCursorMoves :
    (base true).inReset = false ∧ (base true).time.cursor = none ∧ (base true).time.previous = none ∧
      (base true).time.valid = false ∧ (timed 64 (base true)).time.valid = true ∧
      (after (.timeReading true 1001019850) (base true)).time = ⟨some 31281870, some 1001019850, false, true⟩ ∧
      (after (.timeReading false 0) (timed 64 (base true))).time.valid = false := by decide

/-- The rows of R74 at their boundaries, with the cursor at slot 31,281,871 and the previous reading at its
start: 32 ns before the slot, 31 ns before it, 32,769 ns on, the slot's last ns, the next slot, 32,768 ns on. -/
theorem test_witness_ReadingsJudgedByRows :
    let s := timed 1001019872 (base true)
    s.inReset = false ∧ s.time.valid = true ∧ s.time.latch = false ∧ s.time.cursor = some 31281871 ∧
      s.time.previous = some 1001019872 ∧
      [1001019840, 1001019841, 1001052641, 1001019903, 1001019904, 1001052640].map
          (fun x => (after (.timeReading true (BitVec.ofNat 64 x)) s).time.cursor) =
        [some 31281870, some 31281871, some 31282895, some 31281871, some 31281872, some 31282895] ∧
      [1001019840, 1001019841, 1001052641, 1001019903, 1001019904, 1001052640].map
          (fun x => (after (.timeReading true (BitVec.ofNat 64 x)) s).port.outcomes.length) = [1, 0, 1, 0, 0, 0] := by
  decide

/-- Spec/05's reading 4, a step implied at 1,001,060,000, and an explicit one by the latch. -/
theorem test_witness_StepClearsTheSchedule :
    let s := timed 1001020000 (holding [bundle 0 7 true 2 (some 5)]
      ((base true).setFlow 7 { lockedAt 60 1 (flowIn .running raster) with queueA := [0], queueB := [0], creditA := 1 }))
    let l := after .timeStepStrobe s
    s.inReset = false ∧ s.time.cursor = some 31281875 ∧ s.time.previous = some 1001020000 ∧
      (32 * 31281875 ≤ 1001060000 ∧ 1001020000 + 32768 < 1001060000) ∧
      ((after (.timeReading true 1001060000) s).flow 7).state = .armed ∧
      ((after (.timeReading true 1001060000) s).flow 7).counters.step = 1 ∧
      (after (.timeReading true 1001060000) s).port.outcomes = [⟨false, 1001060000, .timeEvent .impliedStep⟩] ∧
      l.time.latch = true ∧
      (after (.timeReading true 1001020001) l).port.outcomes = [⟨false, 1001020000, .timeEvent .step⟩] := by decide

/-- Spec/05's reading 3: slots 31,281,872 to 31,281,875 are passed and both credits rise to 1. -/
theorem test_witness_CursorMoveRaisesCredits :
    let s := timed 1001019872 ((base true).setFlow 7 (lockedAt 60 1 (flowIn .running raster)))
    let t := after (.timeReading true 1001020010) s
    s.inReset = false ∧ s.time.valid = true ∧ s.time.latch = false ∧ s.time.cursor = some 31281871 ∧
      s.time.previous = some 1001019872 ∧ 32 * 31281871 ≤ 1001020010 ∧ 1001020010 ≤ 1001019872 + 32768 ∧
      31281871 < 1001020010 / 32 ∧ t.time.cursor = some 31281875 ∧ (t.flow 7).creditA = 1 ∧ (t.flow 7).creditB = 1 := by
  decide

/-! ## Pacing arithmetic -/

theorem raster_paced : raster.Paced := by unfold Params.Paced; decide

theorem essence_paced : essence.Paced := by unfold Params.Paced; decide

/-- Frame 60 of the raster flow: N credit slots from its start to the next frame's, the first at 31,281,875. -/
theorem test_witness_CreditSlotsCountTheInstants :
    31281874 ≤ 31803228 ∧ raster.creditSlots 60 31281874 31803228 = 4320 ∧ raster.creditSlots 60 31281874 31281875 = 1 ∧
      raster.creditSlots 60 31281000 31281874 = 0 ∧ raster.creditSlots 61 31281874 31803228 = 0 := by decide

/-- Spec/02's table of frame starts, and a period written twice as large. -/
theorem test_witness_FrameGridIsCarriedExactly :
    0 < raster.pn ∧ 0 < raster.pd ∧ 50050000 * 6 = 100100000 * 3 ∧
      [0, 1, 2, 3, 59, 60, 61, 62, 63].map raster.frameStart =
        [20000, 16703333, 33386666, 50070000, 984336666, 1001020000, 1017703333, 1034386666, 1051070000] ∧
      (Position.nextFrame raster raster.derive (Position.atLock raster 59)).q = 1001000000 := by decide

/-- Spec/02's table of offsets: carried and direct. -/
theorem test_witness_InstantsKeepTheirDistance :
    [0, 1, 2, 3, 4, 4319].map raster.offset = [0, 3707, 7414, 11122, 14829, 16012292] ∧
      raster.instant 2 2 = 33394080 ∧ 4319 < raster.n ∧ essence.a = essence.t ∧ 7 + 1 < essence.n + 1 ∧
      (Position.nextIndex raster.derive ⟨60, 2, 0, 0, 7414, 11880000, 60⟩).off = 11122 ∧
      (Position.nextIndex raster.derive ⟨60, 2, 0, 0, 7414, 11880000, 60⟩).rem = 3240000 := by decide

/-- Spec/02's locks, a now at which the lead is exactly 8,000 ns, and a now before O. -/
theorem test_witness_LockFrameIsTheFirstAhead :
    0 < raster.pn ∧ 0 < raster.pd ∧ raster.o < raster.pn / raster.pd ∧ raster.lockFrame 1000000000 = 60 ∧
      raster.lockFrame 1020000000 = 62 ∧ essence.lockFrame 1000000000 = 1001 ∧ essence.lockFrame 992000 = 1 ∧
      essence.lockFrame 992001 = 2 ∧ raster.lockFrame 12000 = 0 ∧ raster.lockFrame 12001 = 1 := by decide

theorem test_witness_LoadAndCapacityFollowTheRules :
    0 < raster.pn ∧ 0 < raster.pd ∧ 0 < raster.n ∧ 0 < raster.u ∧ raster.load = 2950 ∧ essence.load = 15 ∧
      ({ raster with legs := .a, w := 0 } : Params).load = 2950 := by decide

/-! ## The Binder -/

theorem sound_lockedAt (k j : Nat) (v : FlowState) (p : Params) (h : v = .running ∨ v = .draining) (hp : p.Paced)
    (hj : j < p.n) (q : List Nat) (hq : q.length ≤ p.qmax) :
    Flow.Sound { lockedAt k j (flowIn v p) with intakeQ := q } where
  declared _ := ⟨rfl, hp⟩
  intake := hq
  slot _ _ := rfl
  intakeQ hv := by rcases h with rfl | rfl <;> simp [lockedAt, flowIn] at hv
  running _ := by simp [lockedAt]
  unlocked hl := by cases hl
  locked x hx := by
    cases Option.some.inj hx
    exact ⟨h, rfl, rfl, rfl, rfl, hj⟩
  credits l := by cases l <;> exact Nat.zero_le _
  queues l := by cases l <;> exact Nat.zero_le _

theorem sound_unlocked (v : FlowState) (p : Params) (hv : v = .armed ∨ v = .draining) (hp : p.Paced) (q : List Nat)
    (hq : q.length ≤ p.qmax) : Flow.Sound { flowIn v p with intakeQ := q } where
  declared _ := ⟨rfl, hp⟩
  intake := hq
  slot _ _ := rfl
  intakeQ h := by rcases hv with rfl | rfl <;> simp [flowIn] at h
  running h := by rcases hv with rfl | rfl <;> cases h
  unlocked _ l := by cases l <;> exact ⟨rfl, rfl⟩
  locked x hx := by cases hx
  credits l := by cases l <;> exact Nat.zero_le _
  queues l := by cases l <;> exact Nat.zero_le _

/-- Event 1 of spec/04's raster example: lock at frame 60, bound at 1,001,020,000; and an ESSENCE lock on a
head without FRAME_START. -/
theorem test_witness_LockBindsTheHead :
    let s := headed 7 (flowIn .armed raster) true 1000000000
    let e := headed 3 (flowIn .draining essence) false 1000000000
    s.inReset = false ∧ (s.flow 7).intakeQ = 0 :: [] ∧ s.now? = some 1000000000 ∧ (s.flow 7).bindable = true ∧
      (s.flow 7).lock = none ∧ s.unitFrameStart 0 = true ∧
      (after (.binderExamination 7) s).unitDue 0 = some 1001020000 ∧
      (((after (.binderExamination 7) s).flow 7).lock.map Position.j) = some 1 ∧
      (e.flow 3).intakeQ = 0 :: [] ∧ e.now? = some 1000000000 ∧ (e.flow 3).bindable = true ∧ (e.flow 3).lock = none ∧
      (e.flow 3).params.cls = .essence ∧ (after (.binderExamination 3) e).unitDue 0 = some 1001000000 ∧
      ((after (.binderExamination 3) e).flow 3).state = .draining := by decide

theorem test_witness_LockBindsTheHead_sound :
    ((headed 7 (flowIn .armed raster) true 1000000000).flow 7).Sound :=
  sound_unlocked .armed raster (.inl rfl) raster_paced [0] (by decide)

/-- Event 5 of spec/04's raster example, and a LOCK discard. -/
theorem test_witness_HeadsWithoutFrameStartDiscarded :
    let s := headed 7 (flowIn .armed raster) false 1000000000
    let e := headed 7 (lockedAt 62 0 (flowIn .running raster)) false 1034400000
    s.inReset = false ∧ (s.flow 7).intakeQ = 0 :: [] ∧ s.now? = some 1000000000 ∧ (s.flow 7).bindable = true ∧
      (s.flow 7).params.cls ≠ .essence ∧ s.unitFrameStart 0 = false ∧ (s.flow 7).lock = none ∧
      ((after (.binderExamination 7) s).flow 7).counters.lockDiscard = 1 ∧
      (e.flow 7).intakeQ = 0 :: [] ∧ e.now? = some 1034400000 ∧ (e.flow 7).bindable = true ∧
      e.unitFrameStart 0 = false ∧ ((e.flow 7).lock.map Position.j) = some 0 ∧
      ((after (.binderExamination 7) e).flow 7).counters.longFrame = 1 := by decide

/-- Events 6 and 7 of spec/04's raster example: FRAME_START at (62,0) is bound, (62,1) is late at 1,059,968,000;
a head exactly W × 1,000 ns behind is bound, one 32 ns later is not; an ESSENCE head within Wf is bound. -/
theorem test_witness_HeadsBoundOrLate :
    let b := headed 7 (lockedAt 62 0 (flowIn .running raster)) true 1034400000
    let l := headed 7 (lockedAt 62 1 (flowIn .running raster)) false 1059968000
    let edge := headed 7 (lockedAt 60 5 (flowIn .running { raster with o := 20008 })) false 1001538528
    let past := headed 7 (lockedAt 60 5 (flowIn .running { raster with o := 20007 })) false 1001538560
    let e := headed 3 (lockedAt 1001 5 (flowIn .running essence)) true 1001625000
    (∀ s ∈ [b, l, edge, past], s.inReset = false ∧ (s.flow 7).intakeQ = 0 :: [] ∧ (s.flow 7).bindable = true ∧
      (s.flow 7).lock.isSome = true ∧ s.now?.isSome = true) ∧
      ¬ (500000 : Int) < 1034400000 - 1034386666 ∧ (after (.binderExamination 7) b).unitDue 0 = some 1034386666 ∧
      ((after (.binderExamination 7) l).flow 7).counters.legB.late = 1 ∧
      ((after (.binderExamination 7) l).flow 7).lock.map Position.j = some 2 ∧
      (after (.binderExamination 7) edge).unitDue 0 = some 1001038545 ∧
      ((after (.binderExamination 7) past).flow 7).counters.legA.late = 1 ∧
      (e.flow 3).intakeQ = 0 :: [] ∧ (e.flow 3).bindable = true ∧ (e.flow 3).params.cls = .essence ∧
      (after (.binderExamination 3) e).unitDue 0 = some 1001625000 := by decide

/-- Event 3 of spec/04's raster example: bound at (61,0) with one SHORT_FRAME. -/
theorem test_witness_ShortFrameMovesToTheNext :
    let s := headed 7 (lockedAt 60 4318 (flowIn .running raster)) true 1017099968
    s.inReset = false ∧ (s.flow 7).intakeQ = 0 :: [] ∧ s.now? = some 1017099968 ∧ (s.flow 7).bindable = true ∧
      (s.flow 7).params.cls ≠ .essence ∧ s.unitFrameStart 0 = true ∧ ((s.flow 7).lock.map Position.j) = some 4318 ∧
      (after (.binderExamination 7) s).unitDue 0 = some 1017703333 ∧
      ((after (.binderExamination 7) s).flow 7).counters.shortFrame = 1 := by decide

theorem test_witness_ShortFrameMovesToTheNext_sound :
    ((headed 7 (lockedAt 60 4318 (flowIn .running raster)) true 1017099968).flow 7).Sound :=
  sound_lockedAt 60 4318 .running raster (.inl rfl) raster_paced (by decide) [0] (by decide)

/-- Event 8 of spec/04's raster example, and its essence example. -/
theorem test_witness_RelockPassesOverFrames :
    let s := headed 7 (lockedAt 63 0 (flowIn .running raster)) true 1060000000
    let e := headed 3 (lockedAt 1001 5 (flowIn .running essence)) false 1001800000
    s.inReset = false ∧ (s.flow 7).intakeQ = 0 :: [] ∧ s.now? = some 1060000000 ∧ (s.flow 7).bindable = true ∧
      s.unitFrameStart 0 = true ∧ ((s.flow 7).lock.map Position.j) = some 0 ∧
      (500000 : Int) < 1060000000 - 1051070000 ∧
      (after (.binderExamination 7) s).unitDue 0 = some 1067753333 ∧
      ((after (.binderExamination 7) s).flow 7).counters.skipped = 1 ∧
      (e.flow 3).intakeQ = 0 :: [] ∧ e.now? = some 1001800000 ∧ (e.flow 3).bindable = true ∧
      (100000 : Int) < 1001800000 - 1001625000 ∧ (after (.binderExamination 3) e).unitDue 0 = some 1002000000 := by
  decide

/-- The state of event 8 of spec/04's raster example, its load in the own entry. -/
def relockState : State :=
  let s := headed 7 (lockedAt 63 0 (flowIn .running raster)) true 1060000000
  { s with adm := { s.adm with ownA := 2950, ownB := 2950 } }

theorem relockState_holds (g : FlowId) : (relockState.flow g).holds = if g = 7 then [0] else [] := by
  revert g; decide

theorem relockState_places (id : Nat) : relockState.places id = if id = 0 then 1 else 0 := by
  split
  · subst id; decide
  · rename_i h
    have e : ∀ g : FlowId, (relockState.flow g).holds.count id = 0 := fun g => by
      rw [relockState_holds]
      split
      · exact List.count_eq_zero.mpr (by simpa using h)
      · rfl
    have hands : ∀ l : Leg, (relockState.leg l).hand = none := fun l => by cases l <;> rfl
    simp [State.places, e, hands]

theorem test_witness_RelockPassesOverFrames_holders : relockState.HoldersExact := by
  refine ⟨by decide, by decide, fun id h => ?_, by decide⟩
  rw [relockState_places] at h
  split at h
  · subst id; exact ⟨bundle 0 7 true 1 none, by decide, rfl⟩
  · omega

theorem test_witness_RelockPassesOverFrames_sound : (relockState.flow 7).Sound :=
  sound_lockedAt 63 0 .running raster (.inl rfl) raster_paced (by decide) [0] (by decide)

/-- The position at the last index of a frame, and at the one before it (R65). -/
theorem test_advance_at_the_last_index :
    ((lockedAt 60 4318 (flowIn .running raster)).advance.lock.map (fun p => (p.k, p.j))) = some (60, 4319) ∧
      ((lockedAt 60 4319 (flowIn .running raster)).advance.lock.map (fun p => (p.k, p.j, p.q, p.off))) =
        some (61, 0, 1017683333, 0) := by decide

/-! ## The Release Calendar and the legs -/

/-- Spec/05's choice among five entries of leg A: the earliest D, then ESSENCE before RASTER_GAPPED at equal D,
then none whose credit is 0 or whose slot is not reached. -/
def choosing (skip : List FlowId) : State :=
  let entries : List (FlowId × FlowClass × Nat × Nat) :=
    [(20, .rasterGapped, 1001031000, 3), (7, .rasterGapped, 1001031122, 1), (3, .essence, 1001031122, 2),
     (12, .rasterLinear, 1001031110, 0), (21, .rasterLinear, 1001031140, 1)]
  let s := holding (entries.zipIdx.map (fun (e, i) => bundle i e.1 true 1 (some e.2.2.1))) (base true)
  timed 1001031104 (entries.zipIdx.foldl (fun t (e, i) =>
    if e.1 ∈ skip then t
    else t.setFlow e.1 { flowIn .running { raster with cls := e.2.1, legs := .a } with
      queueA := [i], creditA := e.2.2.2 }) s)

theorem test_witness_CalendarNamesTheEarliest :
    (choosing []).named .a = some ⟨20, 0, 1001031000⟩ ∧ (choosing [20]).named .a = some ⟨3, 2, 1001031122⟩ ∧
      (choosing [20, 3]).named .a = some ⟨7, 1, 1001031122⟩ ∧ (choosing [20, 3, 7]).named .a = none := by decide

/-- A unit 500,000 ns past its due time is offered or sunk, one 32 ns later is late; spec/06's X2 is late. -/
theorem test_witness_NamedUnitOfferedSunkOrLate :
    let x := flowIn .running { raster with legs := .a }
    let up := waiting 7 x 1001031104 1001531104
    let down := { up with legA := { up.legA with service := .down } }
    let late := waiting 7 x 1001031104 1001531136
    let x2 := waiting 7 (flowIn .running { raster with legs := .a, w := 20 }) 2000010000 2000035008
    (∀ s ∈ [up, down, late, x2], s.inReset = false ∧ s.fitted .a = true ∧ s.freeze = false ∧
      (s.leg .a).service ≠ .stalled ∧ (s.leg .a).request = true ∧ (s.leg .a).hand = none ∧
      (s.named .a).isSome = true ∧ s.now?.isSome = true) ∧
      (after (.calendarNamesEntry .a) up).legA.hand = some ⟨0, 1, 0, .offering, false⟩ ∧
      ((after (.calendarNamesEntry .a) up).flow 7).creditA = 0 ∧
      (after (.calendarNamesEntry .a) down).legA.counters.sinkTotal = 1 ∧
      (after (.calendarNamesEntry .a) late).legA.counters.lateTotal = 1 ∧
      ((after (.calendarNamesEntry .a) late).flow 7).creditA = 1 ∧
      (after (.calendarNamesEntry .a) x2).store.freeCells = 8192 := by decide

/-- The slot of a unit due 18 ns after its slot's start: offered at that start, not one slot before. -/
theorem test_witness_NothingOfferedBeforeItsSlot :
    let x := flowIn .running { raster with legs := .a }
    let s := waiting 7 x 1001031122 1001031104
    (s.leg .a).hand = none ∧ ((after (.calendarNamesEntry .a) s).leg .a).hand = some ⟨0, 1, 0, .offering, false⟩ ∧
      ((after (.calendarNamesEntry .a) (waiting 7 x 1001031122 1001031072)).leg .a).hand = none := by decide

theorem test_witness_TakeMovesOnOrSends :
    let s := inHand 1 2 .offering
    let e := inHand 2 0 .offering
    s.inReset = false ∧ s.fitted .a = true ∧ (s.leg .a).hand = some ⟨0, 1, 2, .offering, false⟩ ∧
      ((s.store.find 0).map (fun u => u.packets.length)) = some 2 ∧
      (after (.take .a) s).legA.hand = some ⟨0, 2, 0, .offering, false⟩ ∧
      (e.leg .a).hand = some ⟨0, 2, 0, .offering, false⟩ ∧ ((e.store.find 0).map (fun u => u.packets.length)) = some 2 ∧
      (after (.take .a) e).legA.hand = none ∧ (after (.take .a) e).legA.request = true ∧
      ((after (.take .a) e).flow 7).counters.legA.sent = 1 ∧ (after (.take .a) e).store.freeCells = 8192 := by decide

/-- Spec/06: CONTINUES on the first packet of two, not on the last; nothing is presented in RETRY_WAIT. -/
theorem test_witness_OpenOfferPresentsItsPacket :
    let s := inHand 1 2 .offering
    let e := inHand 2 0 .offering
    s.inReset = false ∧ (s.leg .a).hand = some ⟨0, 1, 2, .offering, false⟩ ∧ (s.store.find 0).isSome = true ∧
      s.offer .a = some ⟨List.replicate 64 0#8, 7, true⟩ ∧ e.offer .a = some ⟨List.replicate 300 0#8, 7, false⟩ ∧
      (after .freezeRise s).offer .a = s.offer .a ∧ (s.leg .b).hand = none ∧
      (inHand 1 1 (.retryWait true)).offer .a = none := by decide

theorem inHand_places (id : Nat) : (inHand 1 2 .offering).places id = if id = 0 then 1 else 0 := by
  have e : ∀ g : FlowId, ((inHand 1 2 .offering).flow g).holds = [] := by decide
  by_cases h : id = 0
  · subst h; decide
  · have a : ((inHand 1 2 .offering).leg .a).hand = some ⟨0, 1, 2, .offering, false⟩ := rfl
    have b : ((inHand 1 2 .offering).leg .b).hand = none := rfl
    simp [State.places, e, a, b, h, Ne.symm h]

theorem test_witness_OpenOfferPresentsItsPacket_holders : (inHand 1 2 .offering).HoldersExact := by
  refine ⟨by decide, by decide, fun id h => ?_, by decide⟩
  rw [inHand_places] at h
  split at h
  · subst id; exact ⟨⟨0, 7, [List.replicate 64 0#8, List.replicate 300 0#8], true, 1, some 0⟩, by decide, rfl⟩
  · omega

theorem test_witness_RetriesAndFaultsOfAnOffer_answers :
    (∀ s ∈ [inHand 1 2 .offering, inHand 1 3 .offering], s.inReset = false ∧ s.fitted .a = true ∧
      (s.store.find 0).isSome = true ∧ (s.leg .a).offering = true) ∧
      (after (.retry .a) (inHand 1 2 .offering)).legA.hand = some ⟨0, 1, 3, .retryWait false, false⟩ ∧
      (after (.retry .a) (inHand 1 3 .offering)).legA.counters.faults = 1 ∧
      ((after (.fault .a) (inHand 1 3 .offering)).flow 7).counters.legA.fault = 1 := by decide

theorem test_witness_RetriesAndFaultsOfAnOffer_signal :
    let s := inHand 1 1 (.retryWait false)
    let t := after (.timeReading false 0) s
    s.inReset = false ∧ s.fitted .a = true ∧ (s.leg .a).hand = some ⟨0, 1, 1, .retryWait false, false⟩ ∧
      t.legA.hand = some ⟨0, 1, 1, .retryWait true, false⟩ ∧
      (after (.retryReoffer .a) t).legA.hand = some ⟨0, 1, 1, .offering, false⟩ ∧ after (.retryReoffer .a) s = s := by
  decide

theorem test_witness_StrayAnswersOnlyCounted :
    (∀ s ∈ [base true, inHand 1 1 (.retryWait true)], s.inReset = false ∧ s.fitted .a = true ∧
      (s.leg .a).offering = false ∧ (after (.take .a) s).legA.counters.strayAnswer = 1) := by decide

theorem test_witness_ServiceFollowsPermitAndTimer :
    let up := base true
    let stalled := after (.permitFall .a) up
    let down := after (.stallTimeout .a) stalled
    let out := after (.legControlOut 1) up
    up.inReset = false ∧ up.fitted .a = true ∧ up.legA.permit = true ∧ up.legA.service = .up ∧
      stalled.legA.service = .stalled ∧ stalled.legA.permit = false ∧ stalled.legA.stall = some 10000000 ∧
      stalled.legA.request = false ∧ down.legA.service = .down ∧ down.legA.request = true ∧
      down.ownClock = 10000000 ∧ (after (.permitRise .a) down).legA.service = .up ∧
      out.legA.service = .out ∧ out.legA.permit = true ∧ (after (.permitFall .a) out).legA.permit = false ∧
      (after (.permitRise .a) (after (.permitFall .a) out)).legA.service = .out := by decide

/-- R108: leg B is not fitted after the reset of State.reset. -/
theorem test_witness_ServiceFollowsPermitAndTimer_notFitted :
    State.reset.straps.legb = false ∧ State.reset.inReset = false ∧
      (∀ c ∈ [.permitRise .b, .take .b, .stallTimeout .b], after c State.reset = State.reset) ∧
      (after (.permitRise .a) State.reset).legA.service = .up := by decide

theorem test_witness_LegControlOutAndIn :
    let up := base true
    let out := after (.legControlOut 2) up
    let dark := after (.permitFall .b) out
    up.intakeReady = true ∧ up.straps.legb = true ∧ up.legB.service ≠ .out ∧ out.legB.service = .out ∧
      out.legB.permit = true ∧ dark.legB.service = .out ∧ dark.legB.permit = false ∧
      (after (.legControlIn 2) dark).legB.stall = some 10000000 ∧
      (after (.legControlIn 2) out).port.outcomes.map Record.outcome = [.legEvent .b .out, .legEvent .b .into] := by
  decide

theorem test_witness_FreezeSuspendsServing :
    (base true).inReset = false ∧ (base true).fitted .b = true ∧ (after .freezeRise (base true)).legA.request = false ∧
      (after .freezeFall (after .freezeRise (base true))).legB.request = true ∧
      (State.reset.fitted .b = false) := by decide

/-! ## Intake and the Cell Store -/

/-- The tests of R36 at their boundaries: 63, 64 and 2,049 bytes, a flow above 63, one byte more than Smax. -/
theorem test_witness_PacketsJudgedInOrder :
    let s := (base true).setFlow 12 { flowIn .armed runs with slot := .opened 0 }
    let h := holding [bundle 0 12 true 1 none] s
    let send (f : Byte) (n : Nat) (t : State) := after (.packetArrival f false true true (List.replicate n 0#8)) t
    h.intakeReady = true ∧ (h.flow 12).state = .armed ∧ (h.flow 12).params.smax < 1401 ∧
      (send 12 63 h).store.badLength = 1 ∧ (send 64 64 h).store.stray = 1 ∧ (send 5 64 h).store.stray = 1 ∧
      ((send 12 1401 h).flow 12).counters.oversize = 1 ∧ ((send 12 1401 h).flow 12).counters.runMalformed = 1 ∧
      (send 12 1401 h).store.freeCells = 8192 := by decide

/-- Spec/03's example: arrivals 1, 2 and 3 form K2 of 15 cells, arrival 4 is a unit of 2 cells. -/
theorem test_witness_PacketsFormUnitsAndRuns_units :
    let s := holding [bundle 0 12 true 1 none] ((base true).setFlow 12 { flowIn .running runs with intakeQ := [0] })
    let s1 := after (.packetArrival 12 true true false (List.replicate 1200 0#8)) s
    let s2 := after (.packetArrival 12 false false false (List.replicate 1400 0#8)) s1
    let s3 := after (.packetArrival 12 false false true (List.replicate 900 0#8)) s2
    let s4 := after (.packetArrival 12 false false false (List.replicate 300 0#8)) s3
    s.intakeReady = true ∧ (s.flow 12).slot = .empty ∧ (s.flow 12).intakeQ.length < runs.qmax ∧
      1200 ≤ runs.smax ∧ (s1.flow 12).slot = .opened 1 ∧ s1.store.freeCells = 8186 ∧
      (s1.store.find 1).isSome = true ∧ (s2.flow 12).slot = .opened 1 ∧ s2.store.freeCells = 8180 ∧
      (s3.flow 12).intakeQ = [0, 1] ∧ s3.store.freeCells = 8176 ∧ (s4.flow 12).intakeQ = [0, 1, 2] ∧
      s4.store.freeCells = 8174 := by decide

/-- Spec/03's example: arrivals 5 to 7 are a refused run, arrival 12 is a fourth packet of an open run; RUN_OPEN
ends a run in either slot. -/
theorem test_witness_PacketsFormUnitsAndRuns_refused :
    let x := { flowIn .running runs with intakeQ := [0, 1, 2] }
    let s := holding [bundle 0 12 true 1 none, bundle 1 12 true 1 none, bundle 2 12 true 1 none] ((base true).setFlow 12 x)
    let send (ro rc : Bool) (t : State) := after (.packetArrival 12 false ro rc (List.replicate 500 0#8)) t
    let s5 := send true false s
    let full := holding [⟨0, 12, List.replicate 3 (List.replicate 800 0#8), true, 1, none⟩]
      ((base true).setFlow 12 { flowIn .running runs with slot := .opened 0 })
    s.intakeReady = true ∧ (s.flow 12).slot = .empty ∧ runs.qmax ≤ (s.flow 12).intakeQ.length ∧
      (s5.flow 12).slot = .refused 1 ∧ ((send false false s5).flow 12).slot = .refused 2 ∧
      ((send false true (send false false s5)).flow 12).slot = .empty ∧
      ((send false true (send false false s5)).flow 12).counters.intakeOver = 3 ∧
      ((send true false s5).flow 12).slot = .refused 1 ∧
      full.intakeReady = true ∧ (full.flow 12).slot = .opened 0 ∧ full.packetCount 0 = 3 ∧
      ((send false true full).flow 12).counters.runMalformed = 1 ∧ (send false true full).store.freeCells = 8192 ∧
      ((send true false full).flow 12).slot = .opened 1 ∧ (send true false full).store.freeCells = 8190 := by decide

/-! ## The peer line -/

theorem test_witness_StartsWaitForTheFreePoint :
    let s := claimingState false false [] .active
    let b := { s with line := { s.line with pendingBreak := true } }
    let later := { s with line := { s.line with freePoint := .later } }
    (∀ t ∈ [s, b, later], t.inReset = false ∧ t.view.station = .active ∧ t.line.sending = none ∧ t.line.driving = false ∧
      t.line.receiver = .hunt) ∧
      s.line.pendingBreak = false ∧ s.line.sendList = ⟨.claim 3 2950, false, false⟩ :: [] ∧
      after (.noticeStart 11) s = s ∧ (after (.noticeStart 12) s).drive = .notice (.claim 3 2950) ∧
      after (.noticeStart 15) later = later ∧ (after (.noticeStart 16) later).drive = .notice (.claim 3 2950) ∧
      (after (.noticeStart 11) (after .wireFree s)).line.sending = none ∧
      (after (.noticeStart 12) (after .wireFree s)).drive = .notice (.claim 3 2950) ∧
      b.line.pendingBreak = true ∧ after (.noticeStart 12) b = b ∧ (after (.breakStart 12) b).drive = .dominant ∧
      (station .duplicate).view.station = .duplicate ∧ (base true).view.station = .solo ∧
      (base true).line.sending = none := by decide

/-- Spec/07's station 7: the YIELD of 15 merged to 30 while on the wire stays with 15. -/
theorem test_witness_OwnNoticesLeaveTheWire :
    let e : SendEntry := ⟨.yield 1 30, true, true⟩
    let s := { station .active with line := { (station .active).line with
      sending := some (.yield 1 15), sendList := [] ++ e :: [⟨.load 0 0 0, false, false⟩] } }
    s.inReset = false ∧ s.line.sending = some (.yield 1 15) ∧ e.onWire = true ∧
      (∀ x ∈ [] ++ [(⟨.load 0 0 0, false, false⟩ : SendEntry)], x.onWire = false) ∧
      (Notice.yield 1 15).isClaim = false ∧
      (after .noticeComplete s).line.sendList = [⟨.yield 1 15, false, false⟩, ⟨.load 0 0 0, false, false⟩] ∧
      (after .noticeComplete s).line.freePoint = .later ∧
      (after .arbitrationLoss s).line.sendList = [⟨.yield 1 30, false, false⟩, ⟨.load 0 0 0, false, false⟩] ∧
      (after .arbitrationLoss s).line.bodyLoss = false := by decide

theorem test_own_claim_loses_and_waits :
    let s := claimingState false true [] .active
    (∀ f, s.adm.claiming = some f → (s.flow f).cancel = false) ∧ (Notice.claim 3 2950).isClaim = true ∧
      (after .arbitrationLoss s).line.sendList = [⟨.claim 3 2950, false, false⟩] ∧
      (after .arbitrationLoss s).adm.claiming = some 7 := by decide

/-- Spec/09's example: a claim of 2,950 against peer 3's 2,950 stands, one against 6,426 fails; with the cancel
mark a claim that stood is followed by a YIELD. -/
theorem test_witness_OwnClaimDecidedByTheTest :
    let s (cancel : Bool) (peer : Nat) := (claimingState cancel true [] .active).setPeer 3 ⟨.live, peer, 0, 1, 0⟩
    (∀ t ∈ [s false 2950, s false 6426, s true 6425, s true 6426], t.inReset = false ∧ t.view.station = .active ∧
      t.adm.claiming = some 7 ∧ 7 ∉ t.adm.claimQueue ∧ t.line.sending = some (.claim 3 2950) ∧
      t.line.sendList = [] ++ ⟨.claim 3 2950, true, false⟩ :: []) ∧
      (after .noticeComplete (s false 2950)).port.outcomes.map Record.outcome = [.flowAdmitted 7] ∧
      (after .noticeComplete (s false 2950)).adm.ownB = 2950 ∧
      (after .noticeComplete (s false 6426)).port.outcomes.map Record.outcome = [.flowRefused 7 .noShare] ∧
      (after .noticeComplete (s true 6425)).line.sendList = [⟨.yield 3 2950, false, false⟩] ∧
      (after .noticeComplete (s true 6425)).adm.ownA = 0 ∧
      (after .noticeComplete (s true 6426)).line.sendList = [] ∧
      ((after .arbitrationLoss (s true 6426)).flow 7).state = .free := by decide

/-- A flow that waits is placed at the completion, and a pending LOAD carries the new loads and flow count. -/
theorem test_own_claim_places_the_next :
    let s := claimingState false true [9] .active
    let q := { s with line := { s.line with sendList := s.line.sendList ++ [⟨.load 0 0 0, false, false⟩] } }
    7 ∉ q.adm.claimQueue ∧ (∀ d ∈ [] ++ [(⟨.load 0 0 0, false, false⟩ : SendEntry)],
        d.onWire = false ∧ d.notice.isClaim = false) ∧
      (after .noticeComplete q).adm.claiming = some 9 ∧ ((after .noticeComplete q).flow 9).state = .claiming ∧
      (after .noticeComplete q).line.sendList = [⟨.claim 1 15, false, false⟩, ⟨.load 2950 2950 1, false, false⟩] := by
  decide

/-- R115's merge with its stop, the mark of an entry on the wire, and the places by kind. -/
theorem test_witness_AdditionsToTheSendList :
    let y : SendEntry := ⟨.yield 1 16777200, true, false⟩
    let l : SendEntry := ⟨.load 1 2 3, true, false⟩
    addYield 1 15 [y] = [⟨.yield 1 16777215, true, true⟩] ∧ addYield 1 16 [y] = [⟨.yield 1 16777215, true, true⟩] ∧
      addYield 2 5 ([y] ++ [⟨.claim 1 9, false, false⟩]) =
        [y, ⟨.yield 2 5, false, false⟩, ⟨.claim 1 9, false, false⟩] ∧
      addClaim 1 9 ([y] ++ [l]) = [y, ⟨.claim 1 9, false, false⟩, l] ∧
      addLoad 4 5 6 [y] = [y, ⟨.load 4 5 6, false, false⟩] ∧
      addLoad 4 5 6 ([y] ++ l :: []) = [y, ⟨.load 4 5 6, true, true⟩] := by decide

theorem test_witness_CharactersAreFramed :
    let wait := { station .active with line := { (station .active).line with receiver := .waitFree } }
    let hunt := station .active
    let inside := receiving [0x53] .active
    (∀ s ∈ [wait, hunt, inside], s.inReset = false ∧ s.view.station = .active ∧ s.line.sending = none ∧
      s.line.driving = false ∧ s.line.bodyLoss = false) ∧
      (after .wireFree wait).line.receiver = .hunt ∧ after (.characterReceived 0x53 true) wait = wait ∧
      (after (.characterReceived 0x53 true) hunt).line.receiver = .inNotice [0x53] ∧
      (after (.unknownHeader 0x63) hunt).line.counters.formatErrors = 1 ∧
      (after (.characterReceived 1 false) inside).line.receiver = .inNotice [0x53, 1] ∧
      (after (.characterReceived 0x92 true) inside).line.receiver = .inNotice [0x92] ∧
      (after (.characterReceived 0x92 true) inside).line.counters.formatErrors = 1 ∧
      (after .wireFree inside).line.counters.formatErrors = 1 ∧
      (after (.unknownHeader 0x63) inside).line.counters.formatErrors = 2 ∧
      (after .framingError inside).line.receiver = .waitFree ∧
      (let lost := { inside with line := { inside.line with bodyLoss := true } }
       (after .framingError lost).view.station = .active ∧ (after .framingError lost).line.bodyLoss = false) := by
  decide

/-- Station 5 reads its own CLAIM back to its last character: nothing is judged, and the notice is still being sent. -/
theorem test_witness_CharactersAreFramed_readBack :
    let own := claimingState false true [] .active
    let s := { own with line := { own.line with receiver := .inNotice [0x55, 3, 0, 11, 134] } }
    s.inReset = false ∧ s.view.station = .active ∧ s.line.sending = some (.claim 3 2950) ∧ s.line.bodyLoss = false ∧
      after (.noticeReceived 0x17) s = { s with line := { s.line with receiver := .hunt } } ∧
      after .wireFree s = s ∧ after .framingError s = s ∧
      (after .noticeComplete (after (.noticeReceived 0x17) s)).line.counters.noticesSent = 1 := by decide

/-- Spec/08's example, with the own entry at 2,950 on each leg: the join of 9, the claims of 3 and 9, and the
YIELD of 3. -/
theorem test_witness_ReceivedNoticesApplied :
    let v (n : Notice) (i : StationId) : State :=
      let s := ((receiving (n.chars i).dropLast .active).setPeer 3 ⟨.live, 2950, 0, 1, 0⟩).setPeer 9 ⟨.stale, 3000, 3000, 2, 4⟩
      { s with adm := { s.adm with ownA := 2950, ownB := 2950 } }
    let hear (n : Notice) (i : StationId) := after (.noticeReceived ((n.chars i).getLastD 0)) (v n i)
    (v (.claim 1 475) 3).inReset = false ∧ (v (.claim 1 475) 3).line.sending = none ∧
      readNotice ((Notice.claim 1 475).chars 3) = some (.claim 1 475) ∧ ((Notice.claim 1 475).chars 3).sum = 0#8 ∧
      (3 : StationId) ≠ (v (.claim 1 475) 3).straps.stn ∧
      (hear (.claim 1 475) 3).peer 3 = ⟨.live, 3425, 0, 1, 0⟩ ∧ (hear (.claim 1 500) 3).peer 3 = ⟨.live, 2950, 0, 1, 0⟩ ∧
      (hear (.claim 3 300) 9).peer 9 = ⟨.live, 3300, 3300, 2, 0⟩ ∧ (hear (.yield 1 4000) 3).peer 3 = ⟨.live, 0, 0, 1, 0⟩ ∧
      (hear (.load 10001 16777215 65) 2).peer 2 = ⟨.live, 10000, 10000, 64, 0⟩ ∧
      (hear (.load 10001 16777215 65) 2).port.outcomes.map Record.outcome = [.peerEvent 2 .joined] ∧
      (Notice.claim 4 1).maskOk = false ∧ (hear (.claim 4 1) 3).line.counters.formatErrors = 1 ∧
      ([0x53, 1, 0, 11, 134] ++ [(28 : Byte)]).sum ≠ 0#8 ∧
      (after (.noticeReceived 28) (receiving [0x53, 1, 0, 11, 134] .active)).line.counters.checkErrors = 1 := by decide

theorem test_witness_DuplicateDetectionsEndAdmission :
    let cs := ((Notice.yield 1 15).chars 5).dropLast
    let last := ((Notice.yield 1 15).chars 5).getLastD 0
    let s := { claimingState false false [9] .active with
      line := { (claimingState false false [9] .active).line with receiver := .inNotice cs } }
    let lost := { s with line := { s.line with receiver := .inNotice [0x55, 3], bodyLoss := true } }
    s.inReset = false ∧ s.line.sending = none ∧ cs.head?.map senderOf = some s.straps.stn ∧
      readNotice (cs ++ [last]) = some (.yield 1 15) ∧ (cs ++ [last]).sum = 0#8 ∧ s.line.bodyLoss = false ∧
      (after (.noticeReceived last) s).view.station = .duplicate ∧
      (after (.noticeReceived last) s).port.outcomes.map Record.outcome =
        [.peerEvent 5 .duplicate, .flowRefused 7 .duplicateStation, .flowRefused 9 .duplicateStation] ∧
      [(0x55 : Byte), 3].head?.bind noticeLength = some 6 ∧
      (after (.characterReceived 9 false) lost).view.station = .duplicate ∧
      (after (.characterReceived 0x63 true) lost).line.counters.formatErrors = 2 ∧
      (let whole := { s with line := { s.line with bodyLoss := true } }
       (after (.noticeReceived last) whole).view.station = .duplicate ∧
       (after (.noticeReceived 0) whole).line.counters.checkErrors = 1) ∧
      (let cancelled := s.setFlow 7 { s.flow 7 with cancel := true }
       (after (.noticeReceived last) cancelled).port.outcomes.map Record.outcome =
         [.peerEvent 5 .duplicate, .flowClosed 7 .withdrawn .rasterGapped .dual FlowCounters.zero,
          .flowRefused 9 .duplicateStation]) ∧
      (receiving cs .duplicate).view.station = .duplicate ∧
      (after (.noticeReceived last) (receiving cs .duplicate)).line.counters = LineCounters.zero := by decide

theorem claimingState_consistent :
    (claimingState false false [9] .active).ClaimsConsistent ∧ (claimingState false true [] .active).ClaimsConsistent := by
  unfold State.ClaimsConsistent; decide

theorem test_witness_BreaksPlaceALoad :
    let s := { station .listenIn with line := { (station .listenIn).line with driving := true, pendingBreak := true } }
    s.inReset = false ∧ s.line.sending = none ∧ s.line.driving = true ∧ s.view.station = .listenIn ∧
      (after (.breakComplete false) s).view.listen = some 200000000 ∧
      (after (.breakComplete true) s).line.counters.breaksHeard = 1 ∧
      (station .active).line.driving = false ∧
      (after .breakHeard (station .active)).line.sendList = [⟨.load 0 0 0, false, false⟩] ∧
      (after .breakHeard (station .isolated)).line.sendList = [] := by decide

/-- Log 32: the claim timer in the last mark bit cuts the CLAIM, and the station reads it whole under its own number. -/
theorem test_cut_in_the_last_mark_bit :
    let own := claimingState false true [] .active
    let s := { own with line := { own.line with receiver := .inNotice [0x55, 3, 0, 11, 134] } }
    let cut := after (.claimTimeout false) s
    cut.line.sending = none ∧ cut.line.sendList = [] ∧
      (after (.noticeReceived 0x17) cut).view.station = .duplicate := by decide

/-- Log 33: a CLAIM whose timer ran out in the last stop bit is lost there, stays pending and is then withdrawn. -/
theorem test_claim_lost_in_its_last_stop_bit :
    let s := claimingState false true [] .active
    let lost := after .arbitrationLoss (after (.claimTimeout true) s)
    lost.adm.claiming = some 7 ∧ lost.line.sendList = [⟨.claim 3 2950, false, false⟩] ∧
      (after (.claimTimeout false) lost).line.sendList = [] ∧ ((after (.claimTimeout false) lost).flow 7).state = .free := by
  decide

/-- A break meets the own CLAIM: the entry stays pending, or, with the cancel mark, flow 9 is placed before the LOAD. -/
theorem test_witness_BreaksPlaceALoad_sending :
    let kept := claimingState false true [9] .active
    let cancelled := claimingState true true [9] .active
    (∀ s ∈ [kept, cancelled], s.inReset = false ∧ s.line.driving = false ∧ s.view.station = .active ∧
      s.line.sending = some (.claim 3 2950) ∧ s.line.sendList = [] ++ ⟨.claim 3 2950, true, false⟩ :: [] ∧
      s.adm.claiming = some 7) ∧
      (kept.flow 7).cancel = false ∧ (cancelled.flow 7).cancel = true ∧
      (after .breakHeard kept).line.sendList = [⟨.claim 3 2950, false, false⟩, ⟨.load 0 0 0, false, false⟩] ∧
      (after .breakHeard kept).line.sending = none ∧
      (after .breakHeard cancelled).line.sendList = [⟨.claim 1 15, false, false⟩, ⟨.load 0 0 0, false, false⟩] ∧
      ((after .breakHeard cancelled).flow 7).state = .free ∧ (after .breakHeard cancelled).adm.claiming = some 9 := by
  decide

theorem test_witness_BreaksPlaceALoad_claims : (claimingState true true [9] .active).ClaimsConsistent := by
  unfold State.ClaimsConsistent; decide

/-- The last row of spec/09's example: LINE_EVENT ISOLATED, then the refusals in the order of declaration. -/
theorem test_witness_StuckLineIsolatesUntilRestored :
    let s := claimingState false true [9] .active
    s.inReset = false ∧ s.view.station = .active ∧ s.line.driving = false ∧
      (after .stuckLine s).port.outcomes.map Record.outcome =
        [.lineEvent 5 .isolated, .flowRefused 7 .lineIsolated, .flowRefused 9 .lineIsolated] ∧
      (after .stuckLine s).view.station = .isolated ∧
      (station .isolated).line.driving = false ∧ (after .wireRestored (station .isolated)).line.pendingBreak = true ∧
      (after .wireRestored (station .isolated)).view.station = .listenIn := by decide

/-! ## Share View and Admission timers -/

/-- Ages 2 to 3, 6 to 7 and 7 to ABSENT at one tick, and the end of LISTEN_IN with and without a flow that waits. -/
theorem test_witness_ShareViewTimersExpire :
    let s := (((station .active).setPeer 3 ⟨.live, 1, 1, 1, 2⟩).setPeer 4 ⟨.stale, 1, 1, 1, 6⟩).setPeer 9 ⟨.stale, 1, 1, 1, 7⟩
    let t := after .refreshTick s
    let l := { station .listenIn with view := { (station .listenIn).view with listen := some 200000000 } }
    let q := { l.setFlow 7 (flowIn .claimWait raster) with adm := { l.adm with claimQueue := [7] } }
    s.inReset = false ∧ t.peer 3 = ⟨.stale, 1, 1, 1, 3⟩ ∧ t.peer 4 = ⟨.stale, 1, 1, 1, 7⟩ ∧
      t.peer 9 = ⟨.absent, 0, 0, 0, 0⟩ ∧
      t.port.outcomes.map Record.outcome = [.peerEvent 3 .stale, .peerEvent 9 .lost] ∧ t.ownClock = 100000000 ∧
      l.view.station = .listenIn ∧ l.view.listen = some 200000000 ∧ l.adm.claimQueue = [] ∧
      (after .listenInTimeout l).port.outcomes.map Record.outcome = [.lineEvent 5 .active] ∧
      q.adm.claiming = none ∧ q.adm.claimQueue = 7 :: [] ∧
      (after .listenInTimeout q).adm.claimTimer = some 700000000 := by decide

theorem test_witness_ClaimTimeoutWithdraws :
    let s := claimingState false true [] .active
    s.inReset = false ∧ s.adm.claiming = some 7 ∧ s.adm.claimTimer = some 500000000 ∧ 7 ∉ s.adm.claimQueue ∧
      s.line.claimOnWire = true ∧ (after (.claimTimeout true) s).adm.claiming = some 7 ∧
      (after (.claimTimeout false) s).port.outcomes.map Record.outcome = [.flowRefused 7 .claimTimeout] ∧
      (after (.claimTimeout false) s).line.sending = none ∧
      (after (.claimTimeout false) (claimingState false true [9] .active)).adm.claiming = some 9 := by decide

/-! ## Invariants: `relockState` meets them, and a step of it answers a next state -/

theorem test_witness_EveryStepKeepsTheCells : relockState.PoolWhole ∧ relockState.HoldersExact :=
  ⟨by unfold State.PoolWhole; decide, test_witness_RelockPassesOverFrames_holders⟩

theorem test_witness_EveryStepKeepsTheRequests : relockState.RequestsSettled := fun l _ => by cases l <;> rfl

theorem relockState_claims : relockState.ClaimsConsistent := by unfold State.ClaimsConsistent; decide

theorem test_witness_EveryStepKeepsTheOwnEntry : relockState.OwnEntryExact :=
  ⟨relockState_claims, fun l => by cases l <;> decide, fun l => by cases l <;> decide⟩

theorem test_witness_EveryStepKeepsTheFlows : relockState.FlowsSound := by
  refine ⟨relockState_claims, fun f => ?_⟩
  by_cases h : f = 7
  · subst h; exact test_witness_RelockPassesOverFrames_sound
  · have e : relockState.flow f = Flow.afterReset := by
      have := (base true).flow_setFlow_ne h { lockedAt 63 0 (flowIn .running raster) with intakeQ := [0] }
      exact this.trans (by simp [State.flow, base, State.afterReset])
    rw [e]
    exact {
      declared := fun h => absurd rfl h
      intake := Nat.zero_le _
      slot := fun _ _ => rfl
      intakeQ := fun _ => rfl
      running := fun h => by cases h
      unlocked := fun _ l => by cases l <;> exact ⟨rfl, rfl⟩
      locked := fun x hx => by cases hx
      credits := fun l => by cases l <;> exact Nat.zero_le _
      queues := fun l => by cases l <;> exact Nat.zero_le _ }

/-- Two units of flow 7 in its leg A queue, due 3,707 ns apart, and the position after them. -/
theorem test_witness_EveryStepKeepsTheFlows_dues :
    let s := holding [bundle 0 7 true 1 (some 1001020000), bundle 1 7 false 1 (some 1001023707)]
      ((base true).setFlow 7 { lockedAt 60 2 (flowIn .running raster) with queueA := [0, 1] })
    s.unitDue 0 = some 1001020000 ∧ s.unitDue 1 = some 1001023707 ∧
      (s.flow 7).lock.map (fun p => p.q + raster.o + p.off) = some 1001027414 := by decide

theorem relockState_dues : relockState.DuesIncrease := by
  have e : ∀ f : FlowId, (relockState.flow f).queueA = [] ∧ (relockState.flow f).queueB = [] := by decide
  intro f l
  have h : (relockState.flow f).queue l = [] := by
    cases l
    · exact (e f).1
    · exact (e f).2
  rw [h]
  exact ⟨.nil, fun id h => by cases h⟩

theorem test_witness_EveryStepKeepsTheCounters_bits : (after .wireFree (station .active)).BitCountsSound ∧
    (after .wireFree (station .active)).line.bits = ⟨12, 0⟩ ∧ (after .breakHeard (station .active)).line.bits = ⟨0, 12⟩ ∧
    (after .stuckLine (station .active)).line.bits = ⟨0, 64⟩ ∧ State.reset.line.bits = ⟨0, 0⟩ :=
  ⟨⟨by decide, by decide, by decide, by decide⟩, by decide, by decide, by decide, rfl⟩

theorem test_witness_EveryStepKeepsTheCounters : relockState.CountersBounded := by
  unfold State.CountersBounded
  refine ⟨by decide, fun l => by cases l <;> decide, by decide, by decide, by decide⟩

/-- A claim on the wire behind no other entry meets the invariant of the send list. -/
theorem test_witness_EveryStepKeepsTheSendList : (claimingState false true [9] .active).SendListSound where
  ordered := by decide
  oneClaim := by decide
  oneLoad := by decide
  oneYield mask := Nat.zero_le _
  oneOnWire := by decide
  sending := by decide
  quiet := by decide
  sent e he _ n hn := by
    cases List.mem_singleton.mp he
    cases Option.some.inj hn
    exact ⟨rfl, fun _ => rfl⟩
  changed e he h := by
    cases List.mem_singleton.mp he
    cases h
  claim := by decide
  silent _ h := absurd rfl h

theorem test_witness_step_of_relockState :
    let s := { relockState with pending := [.binderExamination 7] }
    step s = .next (after (.binderExamination 7) relockState) := rfl

end Sys2Proof.Tests
end

section
/-! The validation of a DECLARE (R4, R5, R160): what the command does with a known and an unknown flow number,
and the model's validation as the first failing check of one list. -/

namespace Sys2Proof.Proofs.Declare

open Sys2Proof Sys2Proof.Machine

/-! ## The command on a known and an unknown flow number (R4, R160) -/

theorem exec_declare (d : Declaration) (s : State) : exec (.declare d) s = execDeclare d s := rfl

theorem exec_declare_known {d : Declaration} {f : FlowId} {s : State} (hready : s.intakeReady = true)
    (hf : d.flow.toNat = f.val) : exec (.declare d) s = .next (declareFlow d f s) := by
  rw [exec_declare, execDeclare, onRecord_ready hready, State.withFlow_known s hf]

theorem exec_declare_unknown {d : Declaration} {s : State} (hready : s.intakeReady = true)
    (hf : 63 < d.flow.toNat) : exec (.declare d) s = .next (s.refuse .badFlow d.flow codeDeclare) := by
  rw [exec_declare, execDeclare, onRecord_ready hready, State.withFlow_unknown s hf]

theorem declareFlow_of_busy (d : Declaration) {f : FlowId} {s : State} (h : (s.flow f).state ≠ .free) :
    declareFlow d f s = s.refuse .flowBusy d.flow codeDeclare := if_pos h

theorem declareFlow_of_failing {d : Declaration} {f : FlowId} {s : State} {code : DirectiveCode}
    (hfree : (s.flow f).state = .free) (h : validate s.straps d = .inl code) :
    declareFlow d f s = s.refuse code d.flow codeDeclare := by
  simp [declareFlow, hfree, h]

/-! ## The first failing check of a list -/

/-- The code of the first check that fails. -/
def firstFailing (checks : List (Bool × DirectiveCode)) : Option DirectiveCode :=
  (checks.find? (fun c => !c.1)).map Prod.snd

@[simp] theorem firstFailing_nil : firstFailing [] = none := rfl

@[simp] theorem firstFailing_cons (ok : Bool) (code : DirectiveCode) (checks : List (Bool × DirectiveCode)) :
    firstFailing ((ok, code) :: checks) = if !ok then some code else firstFailing checks := by
  cases ok <;> rfl

/-- A chain of tests agrees with a list of checks when the first tests agree, and the rest do where these pass. -/
theorem ite_eq_firstFailing {ok ok' : Bool} {code : DirectiveCode} {rest : Option DirectiveCode}
    {checks : List (Bool × DirectiveCode)} (h : ok = ok') (hrest : ok' = true → rest = firstFailing checks) :
    (if !ok then some code else rest) = firstFailing ((ok', code) :: checks) := by
  subst h
  cases ok with
  | false => rfl
  | true => simp [hrest rfl]

/-! ## The class and legs codes (checks 1 and 2 of R5) -/

theorem classOf_isSome (b : Byte) : (classOf b).isSome = decide (b.toNat ≤ 2) := by
  unfold classOf
  split_ifs <;> simp_all [BitVec.toNat_eq]
  omega

theorem legsOf_isSome (b : Byte) (legb : Bool) :
    (legsOf b legb).isSome = decide (b.toNat = 1 ∨ (legb = true ∧ (b.toNat = 2 ∨ b.toNat = 3))) := by
  cases legb <;> unfold legsOf <;> split_ifs <;> simp_all [BitVec.toNat_eq]

theorem classOf_gapped {b : Byte} {c : FlowClass} (h : classOf b = some c) :
    c = .rasterGapped ↔ ¬ b.toNat ≤ 1 := by
  unfold classOf at h
  split_ifs at h <;> cases h <;> simp_all

/-! ## The checks on the values (checks 3 to 13 of R5) -/

theorem within_eq (x lo hi : Nat) : within x lo hi = decide (lo ≤ x ∧ x ≤ hi) := by
  simp [within]

theorem divUp_le_iff {b : Nat} (a m : Nat) (hb : 0 < b) : divUp a b ≤ m ↔ a ≤ m * b := by
  rw [Nat.mul_comm]
  exact ceilDiv_le_iff_le_mul hb

section
variable (d : Declaration)

/-- Check 3: Pn, Pd and the whole part of the period lie in their ranges. -/
def periodOk : Bool :=
  decide (1 ≤ d.pn.toNat ∧ d.pn.toNat ≤ 2 ^ 40 - 1 ∧ 1 ≤ d.pd.toNat ∧ d.pd.toNat ≤ 1048575 ∧
    1000000 ≤ d.pn.toNat / d.pd.toNat ∧ d.pn.toNat / d.pd.toNat ≤ 1000000000)

/-- Check 5: A and T lie in their ranges, and A = T for the classes ESSENCE and RASTER_LINEAR. -/
def ratioOk : Bool :=
  decide (1 ≤ d.a.toNat ∧ d.a.toNat ≤ 4095 ∧ 1 ≤ d.t.toNat ∧ d.t.toNat ≤ 4095 ∧ d.a.toNat ≤ d.t.toNat ∧
    (d.cls.toNat ≤ 1 → d.a.toNat = d.t.toNat))

/-- Check 13: the load is at most the limit, compared without the division by Pn. -/
def loadOk (limit : Nat) : Bool :=
  decide (d.n.toNat * d.u.toNat * (d.smax.toNat + 24) * 8000 * d.pd.toNat ≤ limit * d.pn.toNat)

/-- The checks on the values of a DECLARE, in R5's order. -/
def valueChecks (limit : Nat) : List (Bool × DirectiveCode) :=
  [(periodOk d, .badPeriod),
   (decide (1 ≤ d.n.toNat ∧ d.n.toNat ≤ 65535), .badCount),
   (ratioOk d, .badRatio),
   (decide (d.o.toNat < d.pn.toNat / d.pd.toNat), .badOffset),
   (decide (1 ≤ d.bmax.toNat ∧ d.bmax.toNat ≤ 16), .badBurst),
   (decide (64 ≤ d.smax.toNat ∧ d.smax.toNat ≤ 2048), .badSize),
   (decide (1 ≤ d.u.toNat ∧ d.u.toNat ≤ 4), .badUnit),
   (decide (1 ≤ d.qmax.toNat ∧ d.qmax.toNat ≤ 1024), .badQueue),
   (decide (64 * (d.pd.toNat * d.t.toNat * d.n.toNat) ≤ d.pn.toNat * d.a.toNat), .badRate),
   (loadOk d limit, .loadTooLarge)]

theorem within_period_eq_periodOk :
    (within d.pn.toNat 1 (2 ^ 40 - 1) && within d.pd.toNat 1 1048575 &&
      within (d.pn.toNat / d.pd.toNat) 1000000 1000000000) = periodOk d := by
  simp only [periodOk, within_eq, ← Bool.decide_and, and_assoc]

theorem within_ratio_eq_ratioOk {c : FlowClass} (hc : classOf d.cls = some c) :
    (within d.a.toNat 1 4095 && within d.t.toNat 1 4095 && decide (d.a.toNat ≤ d.t.toNat) &&
      (c == .rasterGapped || d.a.toNat == d.t.toNat)) = ratioOk d := by
  have hclass : (c == .rasterGapped || d.a.toNat == d.t.toNat) =
      decide (d.cls.toNat ≤ 1 → d.a.toNat = d.t.toNat) := by
    rw [Bool.eq_iff_iff]
    simp [classOf_gapped hc]
  simp only [ratioOk, hclass, within_eq, Bool.decide_and, Bool.and_assoc]

/-- Without the division by Pn the comparison is the same wherever the period check before it passed. -/
theorem load_le_eq_loadOk (c : FlowClass) (l : Legs) (limit : Nat) (h : periodOk d = true) :
    decide ((declaredParams d c l).load ≤ limit) = loadOk d limit := by
  have hpn : 0 < d.pn.toNat := (of_decide_eq_true h).1
  exact decide_eq_decide.mpr (divUp_le_iff _ _ hpn)

/-- The model's chain of checks finds the first failing check of the list, check by check. -/
theorem firstFailure_eq_firstFailing {c : FlowClass} (l : Legs) (hc : classOf d.cls = some c) (limit : Nat) :
    (declaredParams d c l).firstFailure limit = firstFailing (valueChecks d limit) := by
  refine ite_eq_firstFailing (within_period_eq_periodOk d) fun hperiod => ?_
  refine ite_eq_firstFailing (within_eq ..) fun _ => ?_
  refine ite_eq_firstFailing (within_ratio_eq_ratioOk d hc) fun _ => ?_
  refine ite_eq_firstFailing rfl fun _ => ?_
  refine ite_eq_firstFailing (within_eq ..) fun _ => ?_
  refine ite_eq_firstFailing (within_eq ..) fun _ => ?_
  refine ite_eq_firstFailing (within_eq ..) fun _ => ?_
  refine ite_eq_firstFailing (within_eq ..) fun _ => ?_
  refine ite_eq_firstFailing rfl fun _ => ?_
  exact ite_eq_firstFailing (load_le_eq_loadOk d c l limit hperiod) fun _ => rfl

end

/-! ## The whole validation (R5) -/

/-- The checks on a DECLARE, in R5's order. -/
def declareChecks (straps : Straps) (d : Declaration) : List (Bool × DirectiveCode) :=
  (decide (d.cls.toNat ≤ 2), .badClass) ::
  (decide (d.legs.toNat = 1 ∨ (straps.legb = true ∧ (d.legs.toNat = 2 ∨ d.legs.toNat = 3))), .badLegs) ::
  valueChecks d (capacity straps.cap * 15 / 16)

theorem firstFailing_declareChecks (straps : Straps) (d : Declaration) :
    firstFailing (declareChecks straps d) =
      if !(classOf d.cls).isSome then some .badClass
      else if !(legsOf d.legs straps.legb).isSome then some .badLegs
      else firstFailing (valueChecks d (admissionLimit straps.cap)) := by
  simp only [declareChecks, firstFailing_cons, classOf_isSome, legsOf_isSome, admissionLimit]

/-- Where a check fails, validation answers the code of the first one. -/
theorem validate_of_failing {straps : Straps} {d : Declaration} {code : DirectiveCode}
    (h : firstFailing (declareChecks straps d) = some code) : validate straps d = .inl code := by
  rw [firstFailing_declareChecks] at h
  cases hc : classOf d.cls with
  | none => simpa [validate, hc] using h
  | some c =>
    cases hl : legsOf d.legs straps.legb with
    | none => simpa [validate, hc, hl] using h
    | some l =>
      have hvalues : firstFailing (valueChecks d (admissionLimit straps.cap)) = some code := by
        simpa [hc, hl] using h
      simp [validate, hc, hl, firstFailure_eq_firstFailing d l hc, hvalues]

/-- Where no check fails, the class and the legs are known and validation answers the declared values. -/
theorem validate_of_passing {straps : Straps} {d : Declaration}
    (h : firstFailing (declareChecks straps d) = none) :
    ∃ c l, classOf d.cls = some c ∧ legsOf d.legs straps.legb = some l ∧
      validate straps d = .inr (declaredParams d c l) := by
  rw [firstFailing_declareChecks] at h
  cases hc : classOf d.cls with
  | none => simp [hc] at h
  | some c =>
    cases hl : legsOf d.legs straps.legb with
    | none => simp [hc, hl] at h
    | some l =>
      have hvalues : firstFailing (valueChecks d (admissionLimit straps.cap)) = none := by
        simpa [hc, hl] using h
      exact ⟨c, l, rfl, rfl, by simp [validate, hc, hl, firstFailure_eq_firstFailing d l hc, hvalues]⟩

/-! ## The obligations -/

/-- Settles O5: check 2 of R160 and the test for FREE come before the validation. -/
theorem declareRefusedForBusyOrUnknownFlow : Obligations.DeclareRefusedForBusyOrUnknownFlow := by
  intro d s hready
  constructor
  · intro f hf hbusy
    rw [exec_declare_known hready hf, declareFlow_of_busy d hbusy]
    rfl
  · intro hf
    rw [exec_declare_unknown hready hf]
    rfl

/-- Settles O6, by the list of checks that the model's validation runs through. -/
theorem declareValidatedInOrder : Obligations.DeclareValidatedInOrder := by
  intro d f s hready hf hfree pn pd n a t limit checks
  have hchecks : firstFailing checks = firstFailing (declareChecks s.straps d) := rfl
  split
  next code hfind =>
    have hfail : firstFailing checks = some code := congrArg (Option.map Prod.snd) hfind
    have hv : validate s.straps d = .inl code := validate_of_failing (hchecks ▸ hfail)
    rw [exec_declare_known hready hf, declareFlow_of_failing hfree hv]
    rfl
  next hfind =>
    have hpass : firstFailing checks = none := congrArg (Option.map Prod.snd) hfind
    obtain ⟨c, l, hc, hl, hv⟩ := validate_of_passing (hchecks ▸ hpass)
    exact ⟨declaredParams d c l, hv, rfl, rfl, rfl, rfl, rfl, rfl, rfl, rfl, rfl, rfl, rfl, hc, hl⟩

end Sys2Proof.Proofs.Declare
end

section
/-! The pacing arithmetic (R21-R25): the floors of a rational grid, the frame grid with the pair the Binder
carries, and the release instants of a flow whose parameters passed the checks. -/

namespace Sys2Proof.Proofs.Pacing

open Sys2Proof Sys2Proof.Machine

/-! ## The floors of a rational grid

The frame starts and the offsets are both floor(k × n / d) of a k. -/

/-- The remainder rises by n mod d, less d where it carries. -/
theorem remainder_succ (k n d : Nat) :
    (k + 1) * n % d = if d ≤ k * n % d + n % d then k * n % d + n % d - d else k * n % d + n % d := by
  have h := Nat.add_mod_add_ite (k * n) n d
  rw [Nat.add_mul, Nat.one_mul]
  split
  next hcarry =>
    rw [if_pos hcarry] at h
    exact Nat.eq_sub_of_add_eq h
  next hcarry =>
    rw [if_neg hcarry] at h
    exact h

section
variable (k n : Nat) {d : Nat} (hd : 0 < d)
include hd

/-- From one k to the next the floor rises by n div d, and by 1 more where the remainders carry. -/
theorem floor_succ :
    (k + 1) * n / d = k * n / d + if d ≤ k * n % d + n % d then n / d + 1 else n / d := by
  rw [Nat.add_mul, Nat.one_mul, Nat.add_div hd]
  split <;> omega

/-- Over m rises the floor gains m times n div d and 1 for each carry. -/
theorem floor_add_eq_carries (m : Nat) :
    (k + m) * n / d = k * n / d + m * (n / d) +
      ((Finset.range m).filter (fun i => d ≤ (k + i) * n % d + n % d)).card := by
  induction m with
  | zero => simp
  | succ m ih =>
    rw [← Nat.add_assoc, floor_succ _ n hd, ih, Finset.range_add_one, Finset.filter_insert, Nat.succ_mul]
    split
    · rw [Finset.card_insert_of_notMem (by simp)]
      omega
    · omega

/-- Any d rises in a row gain n together, so exactly n mod d of them carry. -/
theorem card_carries :
    ((Finset.range d).filter (fun i => d ≤ (k + i) * n % d + n % d)).card = n % d := by
  have hrises := floor_add_eq_carries k n hd d
  have htotal : (k + d) * n / d = k * n / d + n := by
    rw [Nat.add_mul, Nat.add_mul_div_left _ _ hd]
  have hn := Nat.div_add_mod n d
  omega

/-- The grid depends on the ratio n / d only. -/
theorem floor_eq_of_ratio_eq {n' d' : Nat} (hd' : 0 < d') (h : n * d' = n' * d) : k * n / d = k * n' / d' := by
  calc k * n / d
      = k * n * d' / (d * d') := (Nat.mul_div_mul_right _ _ hd').symm
    _ = k * n' * d / (d' * d) := by rw [Nat.mul_assoc, h, ← Nat.mul_assoc, Nat.mul_comm d]
    _ = k * n' / d' := Nat.mul_div_mul_right _ _ hd

end

theorem floor_mono {k k' : Nat} (n d : Nat) (h : k ≤ k') : k * n / d ≤ k' * n / d :=
  Nat.div_le_div_right (Nat.mul_le_mul_right n h)

/-! ## Frame starts and the carried pair (R21, R22) -/

theorem frameStart_mono (p : Params) {k k' : Nat} (h : k ≤ k') : p.frameStart k ≤ p.frameStart k' :=
  Nat.add_le_add_right (floor_mono p.pn p.pd h) p.o

section
variable {p : Params} (hpd : 0 < p.pd)
include hpd

theorem frameStart_succ (k : Nat) :
    p.frameStart (k + 1) = p.frameStart k +
      if p.pd ≤ k * p.pn % p.pd + p.pn % p.pd then p.pn / p.pd + 1 else p.pn / p.pd := by
  unfold Params.frameStart
  rw [floor_succ k p.pn hpd, Nat.add_right_comm]

theorem frameStart_succ_bounds (k : Nat) :
    p.frameStart k + p.pn / p.pd ≤ p.frameStart (k + 1) ∧
      p.frameStart (k + 1) ≤ p.frameStart k + p.pn / p.pd + 1 := by
  rw [frameStart_succ hpd]
  split <;> omega

/-- A frame is one of the longer exactly where the remainders carry. -/
theorem longer_frame_iff (k : Nat) :
    p.frameStart (k + 1) - p.frameStart k = p.pn / p.pd + 1 ↔ p.pd ≤ k * p.pn % p.pd + p.pn % p.pd := by
  rw [frameStart_succ hpd, Nat.add_sub_cancel_left]
  split
  next hcarry => exact iff_of_true rfl hcarry
  next hcarry => exact iff_of_false (Nat.ne_of_lt (Nat.lt_succ_self _)) hcarry

/-- One carry takes the direct formulas at frame k to those at frame k + 1. -/
theorem nextFrame_of_direct {x : Position} {k : Nat} (hk : x.k = k) (hq : x.q = k * p.pn / p.pd)
    (hr : x.r = k * p.pn % p.pd) :
    let y := x.nextFrame p p.derive
    y.k = k + 1 ∧ y.j = 0 ∧ y.q = (k + 1) * p.pn / p.pd ∧ y.r = (k + 1) * p.pn % p.pd := by
  rw [floor_succ k p.pn hpd, remainder_succ k p.pn p.pd]
  simp only [Position.nextFrame, Params.derive, Params.pint, hk, hq, hr]
  split <;> exact ⟨rfl, rfl, rfl, rfl⟩

/-- From the lock frame on, the carried pair is the direct formulas at every later frame. -/
theorem iterate_nextFrame_atLock (k m : Nat) :
    let x := (Position.nextFrame p p.derive)^[m] (Position.atLock p k)
    x.k = k + m ∧ x.j = 0 ∧ x.q = (k + m) * p.pn / p.pd ∧ x.r = (k + m) * p.pn % p.pd := by
  induction m with
  | zero => exact ⟨rfl, rfl, rfl, rfl⟩
  | succ m ih =>
    obtain ⟨hk, -, hq, hr⟩ := ih
    rw [Function.iterate_succ_apply']
    exact nextFrame_of_direct hpd hk hq hr

end

/-- Settles O20: the step lemma of the floors, its count over Pd frames, and the induction along the carry. -/
theorem frameGridIsCarriedExactly : Obligations.FrameGridIsCarriedExactly := by
  intro p _ hpd
  refine ⟨fun k => rfl, fun q hqd hratio ho k => ?_, fun k => ?_, fun k => ?_, fun k m => ?_⟩
  · unfold Params.frameStart
    rw [floor_eq_of_ratio_eq k p.pn hpd hqd hratio, ho]
  · rw [frameStart_succ hpd, Nat.add_sub_cancel_left]
  · simp only [longer_frame_iff hpd]
    exact card_carries k p.pn hpd
  · obtain ⟨hk, hj, hq, hr⟩ := iterate_nextFrame_atLock hpd k m
    exact ⟨hk, hj, hq, hr, congrArg (· + p.o) hq⟩

/-! ## Offsets within the frame (R24, R25) -/

theorem offset_mono (p : Params) {j j' : Nat} (h : j ≤ j') : p.offset j ≤ p.offset j' :=
  floor_mono p.sn p.sd h

theorem instant_zero (p : Params) (k : Nat) : p.instant k 0 = p.frameStart k := by
  simp [Params.instant, Params.offset]

theorem instant_mono (p : Params) {k k' j j' : Nat} (hk : k ≤ k') (hj : j ≤ j') :
    p.instant k j ≤ p.instant k' j' :=
  Nat.add_le_add (frameStart_mono p hk) (offset_mono p hj)

section
variable {p : Params} (h : p.Paced)
include h

theorem paced_pd_pos : 0 < p.pd := by
  obtain ⟨-, hpd, -⟩ := h
  exact hpd

theorem paced_n_pos : 0 < p.n := by
  obtain ⟨-, -, hn, -⟩ := h
  exact hn

theorem paced_a_le_t : p.a ≤ p.t := by
  obtain ⟨-, -, -, -, hat, -⟩ := h
  exact hat

theorem paced_active_pos : 0 < p.pn * p.a := by
  obtain ⟨hpn, -, -, ha, -⟩ := h
  exact Nat.mul_pos hpn ha

theorem paced_t_pos : 0 < p.t := by
  obtain ⟨-, -, -, ha, hat, -⟩ := h
  exact Nat.lt_of_lt_of_le ha hat

theorem paced_sd_pos : 0 < p.sd :=
  Nat.mul_pos (Nat.mul_pos (paced_pd_pos h) (paced_t_pos h)) (paced_n_pos h)

/-- Check 12 of R5 is q_S ≥ 64. -/
theorem spacing_ge : 64 ≤ p.sn / p.sd := by
  have hsd := paced_sd_pos h
  obtain ⟨-, -, -, -, -, -, -, hrate⟩ := h
  exact (Nat.le_div_iff_mul_le hsd).mpr hrate

theorem offset_succ (j : Nat) :
    p.offset (j + 1) = p.offset j + p.sn / p.sd ∨ p.offset (j + 1) = p.offset j + p.sn / p.sd + 1 := by
  unfold Params.offset
  rw [floor_succ j p.sn (paced_sd_pos h)]
  split
  · exact .inr rfl
  · exact .inl rfl

theorem offset_succ_ge (j : Nat) : p.offset j + 64 ≤ p.offset (j + 1) := by
  have := spacing_ge h
  have := offset_succ h j
  omega

/-- After N steps of S the offset has crossed the whole active part Pn × A / (Pd × T). -/
theorem offset_n : p.offset p.n = p.pn * p.a / (p.pd * p.t) := by
  unfold Params.offset Params.sn Params.sd
  rw [Nat.mul_comm p.n]
  exact Nat.mul_div_mul_right _ _ (paced_n_pos h)

theorem offset_n_le_pint : p.offset p.n ≤ p.pn / p.pd := by
  calc p.offset p.n
      = p.pn * p.a / (p.pd * p.t) := offset_n h
    _ ≤ p.pn * p.t / (p.pd * p.t) := Nat.div_le_div_right (Nat.mul_le_mul_left _ (paced_a_le_t h))
    _ = p.pn / p.pd := Nat.mul_div_mul_right _ _ (paced_t_pos h)

/-- Without a gap the active part is the whole frame. -/
theorem offset_n_of_no_gap (hat : p.a = p.t) : p.offset p.n = p.pn / p.pd := by
  rw [offset_n h, hat]
  exact Nat.mul_div_mul_right _ _ (paced_t_pos h)

/-- The last offset of a frame is one step before the offset at N. -/
theorem offset_n_eq_last_step :
    p.offset p.n = p.offset (p.n - 1) + p.sn / p.sd ∨ p.offset p.n = p.offset (p.n - 1) + p.sn / p.sd + 1 := by
  have hstep := offset_succ h (p.n - 1)
  rwa [Nat.sub_add_cancel (paced_n_pos h)] at hstep

theorem offset_last_le : p.offset (p.n - 1) + 64 ≤ p.pn / p.pd := by
  have := spacing_ge h
  have := offset_n_eq_last_step h
  have := offset_n_le_pint h
  omega

/-- With j below N the offset ends before the active part does: j × S < N × S. -/
theorem offset_lt_active {j : Nat} (hj : j < p.n) : p.offset j * (p.pd * p.t) < p.pn * p.a := by
  refine Nat.lt_of_mul_lt_mul_right (a := p.n) ?_
  calc p.offset j * (p.pd * p.t) * p.n
      = p.offset j * p.sd := Nat.mul_assoc ..
    _ ≤ j * p.sn := Nat.div_mul_le_self ..
    _ < p.n * p.sn := Nat.mul_lt_mul_of_pos_right hj (paced_active_pos h)
    _ = p.pn * p.a * p.n := Nat.mul_comm ..

/-! ## Instants and their slots (R25) -/

/-- An instant of frame k or an earlier one lies before the gap of frame k, and one of a later frame not before
the next frame start. -/
theorem no_instant_in_gap (k : Nat) {k' j : Nat} (hj : j < p.n) :
    ¬ (p.frameStart k * (p.pd * p.t) + p.pn * p.a ≤ p.instant k' j * (p.pd * p.t) ∧
       p.instant k' j < p.frameStart (k + 1)) := by
  rintro ⟨hafter, hbefore⟩
  rcases Nat.lt_or_ge k k' with hlater | hearlier
  · have hstart : p.frameStart (k + 1) ≤ p.frameStart k' := frameStart_mono p hlater
    exact Nat.not_lt.mpr (Nat.le_add_right_of_le hstart) hbefore
  · have hactive : p.instant k' j * (p.pd * p.t) < p.frameStart k * (p.pd * p.t) + p.pn * p.a := by
      calc p.instant k' j * (p.pd * p.t)
          ≤ p.instant k j * (p.pd * p.t) := Nat.mul_le_mul_right _ (instant_mono p hearlier le_rfl)
        _ = p.frameStart k * (p.pd * p.t) + p.offset j * (p.pd * p.t) := Nat.add_mul ..
        _ < p.frameStart k * (p.pd * p.t) + p.pn * p.a := Nat.add_lt_add_left (offset_lt_active h hj) _
    exact Nat.not_le.mpr hactive hafter

/-- Without a gap both the last step of the offset and the frame itself may be 1 ns longer. -/
theorem last_instant_of_no_gap (hat : p.a = p.t) (k : Nat) :
    p.instant k (p.n - 1) + p.sn / p.sd ≤ p.frameStart (k + 1) ∧
      p.frameStart (k + 1) ≤ p.instant k (p.n - 1) + p.sn / p.sd + 2 := by
  have hframe := frameStart_succ_bounds (paced_pd_pos h) k
  have hlast := offset_n_eq_last_step h
  have hwhole := offset_n_of_no_gap h hat
  unfold Params.instant
  omega

theorem instant_succ_ge (k j : Nat) : p.instant k j + 64 ≤ p.instant k (j + 1) := by
  have := offset_succ_ge h j
  unfold Params.instant
  omega

theorem last_instant_before_next_frame (k : Nat) : p.instant k (p.n - 1) + 64 ≤ p.instant (k + 1) 0 := by
  obtain ⟨hframe, -⟩ := frameStart_succ_bounds (paced_pd_pos h) k
  have := offset_last_le h
  rw [instant_zero]
  unfold Params.instant
  omega

/-- Any two instants lie at least 64 ns apart: in one frame by a step of the offset, across frames by the
distance from the last instant to the next frame. -/
theorem instants_apart {k j k' j' : Nat} (hj : j < p.n) (horder : k < k' ∨ (k = k' ∧ j < j')) :
    p.instant k j + 64 ≤ p.instant k' j' := by
  obtain hk | ⟨rfl, hjj'⟩ := horder
  · calc p.instant k j + 64
        ≤ p.instant k (p.n - 1) + 64 := Nat.add_le_add_right (instant_mono p le_rfl (Nat.le_sub_one_of_lt hj)) 64
      _ ≤ p.instant (k + 1) 0 := last_instant_before_next_frame h k
      _ ≤ p.instant k' j' := instant_mono p hk (Nat.zero_le _)
  · exact (instant_succ_ge h k j).trans (instant_mono p le_rfl hjj')

end

/-- Two slots are 64 ns. -/
theorem slotOf_add_two_le {x y : Nat} (hxy : x + 64 ≤ y) : slotOf x + 2 ≤ slotOf y := by
  unfold slotOf Config.slotNs
  omega

/-- Settles O21: the offsets cross at most Pint in N steps of at least 64 ns, and the frames are Pint or longer. -/
theorem instantsKeepTheirDistance : Obligations.InstantsKeepTheirDistance := by
  intro p h
  refine ⟨spacing_ge h, offset_succ h, Nat.div_mul_le_self .., offset_last_le h, fun k j hj => ?_,
    fun k k' j hj => no_instant_in_gap h k hj, last_instant_of_no_gap h, fun k j _ => instant_succ_ge h k j,
    last_instant_before_next_frame h, fun k j k' j' hj _ horder => slotOf_add_two_le (instants_apart h hj horder)⟩
  have hoffset : p.instant k j - p.frameStart k = p.offset j := Nat.add_sub_cancel_left ..
  rw [hoffset]
  exact offset_lt_active h hj

end Sys2Proof.Proofs.Pacing
end

section
/-! Valid readings of the time port in VALID with the step latch clear (R74): what a step and a cursor move do to
the station time and to the outcome queue, and the rows of R74, one equation each. -/

namespace Sys2Proof.Proofs.StationTime

open Sys2Proof Sys2Proof.Machine

/-! ## Runs over the flows -/

/-- What every turn of a run leaves unchanged, the run leaves unchanged. -/
theorem foldl_keeps {σ α β : Type} (read : σ → β) {turn : σ → α → σ} (h : ∀ s a, read (turn s a) = read s)
    (as : List α) (s : σ) : read (as.foldl turn s) = read s :=
  calc read (as.foldl turn s)
      = as.foldl (fun b _ => b) (read s) := (List.foldl_hom read fun s a => (h s a).symm).symm
    _ = read s := List.foldl_fixed as

theorem stepFlow_time (s : State) (f : FlowId) : (s.stepFlow f).time = s.time := by
  rw [State.stepFlow, State.releaseAll_eq]; rfl

theorem stepFlow_port (s : State) (f : FlowId) : (s.stepFlow f).port = s.port := by
  rw [State.stepFlow, State.releaseAll_eq]; rfl

/-! ## Steps and cursor moves on the station time and the outcome queue (R75, R77, R79) -/

@[simp] theorem timeStep_time (s : State) (x : Nat) (code : TimeCode) :
    (s.timeStep x code).time = { cursor := some (x / 32), previous := some x, latch := false, valid := true } := by
  rw [State.timeStep, State.emit_time, foldl_keeps State.time stepFlow_time]
  rfl

theorem stationTime_of_cursor {s : State} {c : Nat} (h : s.time.cursor = some c) : s.stationTime = 32 * c := by
  simp [State.stationTime, h, slotStart, Config.slotNs]

/-- The record of a step carries the start of the new cursor's slot: the flows' turns keep the new time. -/
@[simp] theorem timeStep_port (s : State) (x : Nat) (code : TimeCode) :
    (s.timeStep x code).port = s.port.add (32 * (x / 32)) (.timeEvent code) := by
  have hstation : (s.timeStep x code).stationTime = 32 * (x / 32) := stationTime_of_cursor (by simp)
  rw [State.timeStep, State.stationTime_emit] at hstation
  rw [State.timeStep, State.emit_port, hstation, foldl_keeps State.port stepFlow_port]

@[simp] theorem moveCursor_time (s : State) (c x : Nat) :
    (s.moveCursor c x).time = { s.time with cursor := some (x / 32), previous := some x } := by
  have hturns := foldl_keeps State.time (fun t f => t.modFlow_time f (fun y => y.credited c (slotOf x))) allFlows s
  simp only [State.moveCursor, hturns]
  rfl

@[simp] theorem moveCursor_port (s : State) (c x : Nat) : (s.moveCursor c x).port = s.port := by
  have hturns := foldl_keeps State.port (fun t f => t.modFlow_port f (fun y => y.credited c (slotOf x))) allFlows s
  simp only [State.moveCursor, hturns]

/-! ## The rows of R74 -/

section
variable {s : State} {c p x : Nat}

theorem judgeReading_behind (hbehind : x + 32 ≤ 32 * c) : s.judgeReading c p x = s.timeStep x .impliedStep :=
  if_pos hbehind

theorem judgeReading_absorbed (hbehind : ¬ x + 32 ≤ 32 * c) (hbefore : x < 32 * c) :
    s.judgeReading c p x = { s with time := { s.time with previous := some x } } :=
  (if_neg hbehind).trans (if_pos hbefore)

/-- From the start of the cursor's slot on, rows 3 to 5 decide. -/
theorem judgeReading_from (hfrom : ¬ x < 32 * c) :
    s.judgeReading c p x =
      if p + 32768 < x then s.timeStep x .impliedStep
      else if x / 32 = c then { s with time := { s.time with previous := some x } }
      else s.moveCursor c x := by
  have hbehind : ¬ x + 32 ≤ 32 * c := by omega
  exact (if_neg hbehind).trans (if_neg hfrom)

theorem judgeReading_forward (hfrom : ¬ x < 32 * c) (hforward : p + 32768 < x) :
    s.judgeReading c p x = s.timeStep x .impliedStep :=
  (judgeReading_from hfrom).trans (if_pos hforward)

theorem judgeReading_waiting (hfrom : ¬ x < 32 * c) (hforward : ¬ p + 32768 < x) (hslot : x / 32 = c) :
    s.judgeReading c p x = { s with time := { s.time with previous := some x } } :=
  (judgeReading_from hfrom).trans ((if_neg hforward).trans (if_pos hslot))

theorem judgeReading_moving (hfrom : ¬ x < 32 * c) (hforward : ¬ p + 32768 < x) (hslot : x / 32 ≠ c) :
    s.judgeReading c p x = s.moveCursor c x :=
  (judgeReading_from hfrom).trans ((if_neg hforward).trans (if_neg hslot))

end

/-! ## The command -/

theorem exec_timeReading_valid {s : State} (hreset : s.inReset = false) (value : BitVec 64) :
    exec (.timeReading true value) s = .next (s.clockTick.validReading value.toNat) :=
  whenActing_acting hreset

theorem validReading_judged {s : State} {c p : Nat} (hvalid : s.time.valid = true) (hlatch : s.time.latch = false)
    (hc : s.time.cursor = some c) (hp : s.time.previous = some p) (x : Nat) :
    s.validReading x = s.judgeReading c p x := by
  simp [State.validReading, hvalid, hlatch, hc, hp]

/-- Settles O16, row by row: rows 1 and 3 by what a step does, row 5 by what a cursor move does. -/
theorem readingsJudgedByRows : Obligations.ReadingsJudgedByRows := by
  intro s value c p hreset hvalid hlatch hc hp x
  have hexec : exec (.timeReading true value) s = .next (s.clockTick.judgeReading c p x) := by
    rw [exec_timeReading_valid hreset, validReading_judged (s := s.clockTick) hvalid hlatch hc hp]
  refine ⟨_, hexec, ?_⟩
  split_ifs with hbehind hbefore hforward hslot
  · simp [judgeReading_behind hbehind]
  · simp [judgeReading_absorbed hbehind hbefore, hvalid, hlatch, hc]
  · simp [judgeReading_forward hbefore hforward]
  · simp [judgeReading_waiting hbefore hforward hslot, hvalid, hlatch, hc]
  · have hlater : c < x / 32 := by omega
    simp [judgeReading_moving hbefore hforward hslot, hvalid, hlatch, hlater]

end Sys2Proof.Proofs.StationTime
end

section
/-! The answers of a leg's MAC (R101, R105): the three commands as one `State.answer`, and that answer without an open offer. -/

namespace Sys2Proof.Proofs.LegAnswers

open Sys2Proof Sys2Proof.Machine

/-! ## The answer commands -/

section
variable {s : State} {l : Leg} (hreset : s.inReset = false) (hfit : s.fitted l = true)
include hreset hfit

theorem exec_take_fitted : exec (.take l) s = .next (s.answer l (s.takePacket l)) := whenever_true hreset hfit

theorem exec_retry_fitted : exec (.retry l) s = .next (s.answer l (s.retryPacket l)) := whenever_true hreset hfit

theorem exec_fault_fitted : exec (.fault l) s = .next (s.answer l (s.endUnit l)) := whenever_true hreset hfit

end

/-! ## An answer without an open offer (R105) -/

/-- A leg that is not OFFERING is IDLE or in RETRY_WAIT (R88). -/
theorem idle_or_retryWait_of_not_offering {x : EgressLeg} (h : x.offering = false) :
    x.hand = none ∨ ∃ hand signalled, x.hand = some hand ∧ hand.phase = .retryWait signalled := by
  cases hhand : x.hand with
  | none => exact .inl rfl
  | some hand =>
    cases hphase : hand.phase with
    | offering => simp [EgressLeg.offering, hhand, hphase] at h
    | retryWait signalled => exact .inr ⟨hand, signalled, rfl, hphase⟩

/-- Without an open offer it does not matter which answer came. -/
theorem answer_of_not_offering {s : State} {l : Leg} (h : (s.leg l).offering = false)
    (act : Hand → Bundle → State) : s.answer l act = s.strayAnswer l := by
  obtain hidle | ⟨hand, signalled, hhand, hphase⟩ := idle_or_retryWait_of_not_offering h
  · simp [State.answer, hidle]
  · simp [State.answer, hhand, hphase]

/-- Settles O35: every answer command is one `State.answer`, which is stray on a leg that is not OFFERING. -/
theorem strayAnswersOnlyCounted : Obligations.StrayAnswersOnlyCounted := by
  intro c s l hc hreset hfit hoffer
  have hstray : exec c s = .next (s.strayAnswer l) := by
    obtain rfl | rfl | rfl := hc
    · rw [exec_take_fitted hreset hfit, answer_of_not_offering hoffer]
    · rw [exec_retry_fitted hreset hfit, answer_of_not_offering hoffer]
    · rw [exec_fault_fitted hreset hfit, answer_of_not_offering hoffer]
  exact hstray

end Sys2Proof.Proofs.LegAnswers
end

section
/-! What a command keeps. The operations fall in two families: those of the data path (intake, Binder, calendar,
legs) leave the peer line, the Share View and the admission of the flows alone, and those of admission and of the
peer line leave the Cell Store, the queues and the hands alone. Each family has one frame, with one lemma for each
operation. -/

namespace Sys2Proof.Proofs.Frames

open Sys2Proof Sys2Proof.Machine

/-! ## The frames -/

/-- What every command but the two of reset keeps. -/
structure Keeps (s t : State) : Prop where
  inReset : t.inReset = s.inReset
  straps : t.straps = s.straps
  pending : t.pending = s.pending
  bounded : s.OutcomesBounded → t.OutcomesBounded

/-- The admission side of a flow's record stays: its parameters, and its state but for ARMED, RUNNING and DRAINING
among each other. -/
structure AdmLike (x y : Flow) : Prop where
  params : y.params = x.params
  derived : y.derived = x.derived
  state : y.state = x.state ∨ (x.holdsLoad = true ∧ y.holdsLoad = true)

/-- The data side of a flow's record stays: its slot and its queues; its counters stay or begin anew (R6). -/
structure DataLike (x y : Flow) : Prop where
  slot : y.slot = x.slot
  intakeQ : y.intakeQ = x.intakeQ
  queueA : y.queueA = x.queueA
  queueB : y.queueB = x.queueB
  counters : y.counters = x.counters ∨ y.counters = .zero

/-- A leg stays, but for the mark that its unit in hand is detached (R10). -/
def LegLike (x y : EgressLeg) : Prop :=
  y = x ∨ ∃ h, x.hand = some h ∧ y = { x with hand := some { h with detached := true } }

/-- The frame of the data path. -/
structure DataStep (s t : State) : Prop extends Keeps s t where
  adm : t.adm = s.adm
  line : t.line = s.line
  view : t.view = s.view
  flows : ∀ f, AdmLike (s.flow f) (t.flow f)

/-- The frame of admission and of the peer line. -/
structure AdmStep (s t : State) : Prop extends Keeps s t where
  freeze : t.freeze = s.freeze
  store : t.store = s.store
  legs : ∀ l, LegLike (s.leg l) (t.leg l)
  flows : ∀ f, DataLike (s.flow f) (t.flow f)

/-! ## Composition -/

theorem Keeps.refl (s : State) : Keeps s s := ⟨rfl, rfl, rfl, id⟩

theorem Keeps.trans {s t u : State} (h : Keeps s t) (k : Keeps t u) : Keeps s u :=
  ⟨k.inReset.trans h.inReset, k.straps.trans h.straps, k.pending.trans h.pending, k.bounded ∘ h.bounded⟩

theorem AdmLike.refl (x : Flow) : AdmLike x x := ⟨rfl, rfl, .inl rfl⟩

theorem holdsLoad_congr {x y : Flow} (h : y.state = x.state) : y.holdsLoad = x.holdsLoad := by
  simp [Flow.holdsLoad, Flow.accepts, h]

theorem AdmLike.holdsLoad {x y : Flow} (h : AdmLike x y) : y.holdsLoad = x.holdsLoad := by
  obtain hst | ⟨hx, hy⟩ := h.state
  · exact holdsLoad_congr hst
  · rw [hx, hy]

theorem AdmLike.trans {x y z : Flow} (h : AdmLike x y) (k : AdmLike y z) : AdmLike x z where
  params := k.params.trans h.params
  derived := k.derived.trans h.derived
  state := by
    obtain hk | ⟨hy, hz⟩ := k.state
    · obtain hh | ⟨hx, hy⟩ := h.state
      · exact .inl (hk.trans hh)
      · exact .inr ⟨hx, (holdsLoad_congr hk).trans hy⟩
    · exact .inr ⟨h.holdsLoad ▸ hy, hz⟩

theorem DataLike.refl (x : Flow) : DataLike x x := ⟨rfl, rfl, rfl, rfl, .inl rfl⟩

theorem DataLike.trans {x y z : Flow} (h : DataLike x y) (k : DataLike y z) : DataLike x z where
  slot := k.slot.trans h.slot
  intakeQ := k.intakeQ.trans h.intakeQ
  queueA := k.queueA.trans h.queueA
  queueB := k.queueB.trans h.queueB
  counters := k.counters.elim (fun e => h.counters.imp e.trans e.trans) .inr

theorem LegLike.refl (x : EgressLeg) : LegLike x x := .inl rfl

theorem LegLike.trans {x y z : EgressLeg} (h : LegLike x y) (k : LegLike y z) : LegLike x z := by
  obtain rfl | ⟨h', hx, rfl⟩ := h
  · exact k
  · obtain rfl | ⟨k', hy, rfl⟩ := k
    · exact .inr ⟨h', hx, rfl⟩
    · cases hy
      exact .inr ⟨h', hx, rfl⟩

theorem DataStep.refl (s : State) : DataStep s s := ⟨⟨rfl, rfl, rfl, id⟩, rfl, rfl, rfl, fun _ => AdmLike.refl _⟩

theorem DataStep.trans {s t u : State} (h : DataStep s t) (k : DataStep t u) : DataStep s u :=
  ⟨h.toKeeps.trans k.toKeeps, k.adm.trans h.adm, k.line.trans h.line, k.view.trans h.view,
    fun f => (h.flows f).trans (k.flows f)⟩

theorem AdmStep.refl (s : State) : AdmStep s s :=
  ⟨⟨rfl, rfl, rfl, id⟩, rfl, rfl, fun _ => LegLike.refl _, fun _ => DataLike.refl _⟩

theorem AdmStep.trans {s t u : State} (h : AdmStep s t) (k : AdmStep t u) : AdmStep s u :=
  ⟨h.toKeeps.trans k.toKeeps, k.freeze.trans h.freeze, k.store.trans h.store,
    fun l => (h.legs l).trans (k.legs l), fun f => (h.flows f).trans (k.flows f)⟩

/-- A relation that every turn of a run keeps, from its start to where the turn begins, holds from the start to the
end. -/
theorem foldl_rel {σ α : Type} {R : σ → σ → Prop} (hrefl : ∀ s, R s s)
    (htrans : ∀ {s t u}, R s t → R t u → R s u) {turn : σ → α → σ} (h : ∀ s a, R s (turn s a))
    (as : List α) (s : σ) : R s (as.foldl turn s) := by
  induction as generalizing s with
  | nil => exact hrefl s
  | cons a as ih => exact htrans (h s a) (ih _)

theorem foldl_data {α : Type} {turn : State → α → State} (h : ∀ s a, DataStep s (turn s a)) (as : List α)
    (s : State) : DataStep s (as.foldl turn s) := foldl_rel DataStep.refl DataStep.trans h as s

theorem foldl_adm {α : Type} {turn : State → α → State} (h : ∀ s a, AdmStep s (turn s a)) (as : List α)
    (s : State) : AdmStep s (as.foldl turn s) := foldl_rel AdmStep.refl AdmStep.trans h as s

/-! ## Records: both frames -/

theorem add_length_le (p : Port) (time : Nat) (o : Outcome) (h : p.outcomes.length ≤ 64) :
    (p.add time o).outcomes.length ≤ 64 := by
  obtain ⟨hlt, e⟩ | ⟨-, e⟩ := p.add_cases time o
  · rw [e, List.length_append]
    exact hlt
  · rw [e]
    exact h

variable (s : State)

theorem emit_keeps (o : Outcome) : Keeps s (s.emit o) := ⟨rfl, rfl, rfl, add_length_le _ _ _⟩

theorem emit_data (o : Outcome) : DataStep s (s.emit o) :=
  ⟨emit_keeps s o, rfl, rfl, rfl, fun _ => AdmLike.refl _⟩

theorem emit_adm (o : Outcome) : AdmStep s (s.emit o) :=
  ⟨emit_keeps s o, rfl, rfl, fun _ => .inl (s.leg_emit o _), fun _ => DataLike.refl _⟩

/-! ## The frame of the data path -/

theorem setFlow_data (f : FlowId) (x : Flow) (h : AdmLike (s.flow f) x) : DataStep s (s.setFlow f x) :=
  ⟨⟨rfl, rfl, rfl, id⟩, rfl, rfl, rfl, fun g => by
    rw [State.flow_setFlow]
    split
    · subst_vars; exact h
    · exact AdmLike.refl _⟩

theorem modFlow_data (f : FlowId) (g : Flow → Flow) (h : AdmLike (s.flow f) (g (s.flow f))) :
    DataStep s (s.modFlow f g) := setFlow_data s f _ h

theorem setStore_data (st : Store) : DataStep s { s with store := st } :=
  ⟨⟨rfl, rfl, rfl, id⟩, rfl, rfl, rfl, fun _ => AdmLike.refl _⟩

theorem release_data (id : Nat) : DataStep s (s.release id) := setStore_data s _

theorem releaseAll_data (ids : List Nat) : DataStep s (s.releaseAll ids) := foldl_data release_data ids s

theorem setLeg_data (l : Leg) (x : EgressLeg) : DataStep s (s.setLeg l x) :=
  ⟨⟨by simp, by simp, by simp, fun h => by simpa [State.OutcomesBounded] using h⟩, by simp, by simp, by simp,
    fun _ => by rw [State.flow_setLeg]; exact AdmLike.refl _⟩

theorem modLeg_data (l : Leg) (g : EgressLeg → EgressLeg) : DataStep s (s.modLeg l g) := setLeg_data s l _

theorem modLegSettled_data (l : Leg) (g : EgressLeg → EgressLeg) : DataStep s (s.modLegSettled l g) :=
  setLeg_data s l _

theorem setTime_data (x : TimeState) : DataStep s { s with time := x } :=
  ⟨⟨rfl, rfl, rfl, id⟩, rfl, rfl, rfl, fun _ => AdmLike.refl _⟩

theorem setPort_data (p : Port) (h : s.OutcomesBounded → p.outcomes.length ≤ 64) :
    DataStep s { s with port := p } :=
  ⟨⟨rfl, rfl, rfl, h⟩, rfl, rfl, rfl, fun _ => AdmLike.refl _⟩

theorem setClock_data (n : Nat) : DataStep s { s with ownClock := n } :=
  ⟨⟨rfl, rfl, rfl, id⟩, rfl, rfl, rfl, fun _ => AdmLike.refl _⟩

/-! ### Binder -/

theorem setQueue_like (x : Flow) (l : Leg) (q : List Nat) : AdmLike x (x.setQueue l q) := by
  cases l <;> exact ⟨rfl, rfl, .inl rfl⟩

theorem setCredit_like (x : Flow) (l : Leg) (c : Nat) : AdmLike x (x.setCredit l c) := by
  cases l <;> exact ⟨rfl, rfl, .inl rfl⟩

theorem countLag_data (f : FlowId) (l : Leg) (d : Nat) : DataStep s (s.countLag f l d) :=
  (modFlow_data s f _ ⟨rfl, rfl, .inl rfl⟩).trans (modLeg_data _ l _)

theorem lagQueue_data (f : FlowId) (l : Leg) : DataStep s (s.lagQueue f l) :=
  ((modFlow_data s f _ (setQueue_like _ l _)).trans (countLag_data _ f l _)).trans (releaseAll_data _ _)

theorem appendUnit_data (f : FlowId) (id : Nat) (l : Leg) : DataStep s (s.appendUnit f id l) := by
  have hq (q : List Nat) : DataStep s (s.modFlow f (fun x => x.setQueue l q)) :=
    modFlow_data s f _ (setQueue_like _ l _)
  unfold State.appendUnit
  split
  · split
    · exact ((hq _).trans (countLag_data _ f l 1)).trans (release_data _ _)
    · exact hq _
  · exact hq _

theorem discardHead_data (f : FlowId) (id : Nat) (g : FlowCounters → FlowCounters) :
    DataStep s (s.discardHead f id g) :=
  (modFlow_data s f _ ⟨rfl, rfl, .inl rfl⟩).trans (release_data _ id)

theorem advance_like (x : Flow) : AdmLike x x.advance := by
  unfold Flow.advance
  split
  · exact ⟨rfl, rfl, .inl rfl⟩
  · exact AdmLike.refl x

theorem bindHead_data (f : FlowId) (id due : Nat) : DataStep s (s.bindHead f id due) :=
  (((setStore_data s _).trans (modFlow_data _ f Flow.dropHead ⟨rfl, rfl, .inl rfl⟩)).trans
    (foldl_data (fun t l => appendUnit_data t f id l) _ _)).trans (modFlow_data _ f _ (advance_like _))

theorem countLate_data (f : FlowId) (l : Leg) : DataStep s (s.countLate f l) :=
  (modFlow_data s f _ ⟨rfl, rfl, .inl rfl⟩).trans (modLeg_data _ l _)

theorem lateHead_data (f : FlowId) (id : Nat) : DataStep s (s.lateHead f id) :=
  (((modFlow_data s f Flow.dropHead ⟨rfl, rfl, .inl rfl⟩).trans
    (foldl_data (fun t l => countLate_data t f l) _ _)).trans (modFlow_data _ f _ (advance_like _))).trans
      (release_data _ id)

theorem placeHead_data (f : FlowId) (id now : Nat) : DataStep s (s.placeHead f id now) := by
  unfold State.placeHead
  split
  · exact DataStep.refl s
  · simp only
    split
    · exact lateHead_data s f id
    · exact bindHead_data s f id _

/-- A lock makes an ARMED flow RUNNING (R56). -/
theorem lockFlow_data (f : FlowId) (now : Nat) : DataStep s (s.lockFlow f now) := by
  refine (modFlow_data s f _ ⟨rfl, rfl, ?_⟩).trans (emit_data _ _)
  by_cases h : (s.flow f).state = .armed
  · exact .inr ⟨by simp [Flow.holdsLoad, Flow.accepts, h], by simp [Flow.holdsLoad, Flow.accepts, h]⟩
  · exact .inl (if_neg h)

theorem relockFlow_data (f : FlowId) (now : Nat) (p : Position) : DataStep s (s.relockFlow f now p) :=
  ((modFlow_data s f _ ⟨rfl, rfl, .inl rfl⟩).trans (foldl_data (fun t l => lagQueue_data t f l) _ _)).trans
    (emit_data _ _)

theorem frameHead_data (f : FlowId) (id now : Nat) : DataStep s (s.frameHead f id now) := by
  unfold State.frameHead
  split
  · exact DataStep.refl s
  · split
    · exact (relockFlow_data s f now _).trans (placeHead_data _ f id now)
    · exact placeHead_data s f id now

theorem shortFrame_data (f : FlowId) (p : Position) : DataStep s (s.shortFrame f p) :=
  modFlow_data s f _ ⟨rfl, rfl, .inl rfl⟩

theorem rasterHead_data (f : FlowId) (id : Nat) (fs : Bool) (now : Nat) :
    DataStep s (s.rasterHead f id fs now) := by
  unfold State.rasterHead
  split
  · exact DataStep.refl s
  · split_ifs
    · exact (shortFrame_data s f _).trans (frameHead_data _ f id now)
    · exact frameHead_data s f id now
    · exact discardHead_data s f id _
    · exact placeHead_data s f id now

theorem essenceHead_data (f : FlowId) (id now : Nat) : DataStep s (s.essenceHead f id now) := by
  unfold State.essenceHead
  split
  · exact DataStep.refl s
  · split
    · exact (relockFlow_data s f now _).trans (placeHead_data _ f id now)
    · exact placeHead_data s f id now

theorem lockedHead_data (f : FlowId) (id : Nat) (fs : Bool) (now : Nat) :
    DataStep s (s.lockedHead f id fs now) := by
  unfold State.lockedHead
  split
  · exact essenceHead_data s f id now
  · exact rasterHead_data s f id fs now

theorem examineHead_data (f : FlowId) (id : Nat) (fs : Bool) (now : Nat) :
    DataStep s (s.examineHead f id fs now) := by
  unfold State.examineHead
  split
  · unfold State.unlockedHead
    split
    · exact (lockFlow_data s f now).trans (lockedHead_data _ f id fs now)
    · exact discardHead_data s f id _
  · exact lockedHead_data s f id fs now

/-! ### Release Calendar -/

/-- A step makes a RUNNING flow ARMED (R67). -/
theorem stepped_like (x : Flow) : AdmLike x x.stepped := by
  unfold Flow.stepped
  split
  · exact ⟨rfl, rfl, .inl rfl⟩
  · refine ⟨rfl, rfl, ?_⟩
    by_cases h : x.state = .running
    · exact .inr ⟨by simp [Flow.holdsLoad, Flow.accepts, h], by simp [Flow.holdsLoad, Flow.accepts, h]⟩
    · exact .inl (if_neg h)

theorem stepFlow_data (f : FlowId) : DataStep s (s.stepFlow f) :=
  (modFlow_data s f _ (stepped_like _)).trans (releaseAll_data _ _)

theorem timeStep_data (x : Nat) (code : TimeCode) : DataStep s (s.timeStep x code) :=
  ((setTime_data s _).trans (foldl_data stepFlow_data _ _)).trans (emit_data _ _)

theorem credited_like (x : Flow) (lo hi : Nat) : AdmLike x (x.credited lo hi) := by
  unfold Flow.credited
  split
  · exact AdmLike.refl x
  · split
    · exact foldl_rel AdmLike.refl AdmLike.trans (fun y l => setCredit_like y l _) _ x
    · exact AdmLike.refl x

theorem moveCursor_data (c x : Nat) : DataStep s (s.moveCursor c x) :=
  (foldl_data (fun t f => modFlow_data t f (fun y => y.credited c (slotOf x)) (credited_like _ _ _)) _ s).trans
    (setTime_data _ _)

theorem judgeReading_data (c p x : Nat) : DataStep s (s.judgeReading c p x) := by
  unfold State.judgeReading
  split_ifs
  · exact timeStep_data s x _
  · exact setTime_data s _
  · exact timeStep_data s x _
  · exact setTime_data s _
  · exact moveCursor_data s c x

theorem validReading_data (x : Nat) : DataStep s (s.validReading x) := by
  unfold State.validReading
  split
  · split
    · exact timeStep_data s x _
    · exact judgeReading_data s _ _ x
  · exact setTime_data s _

theorem invalidReading_data : DataStep s s.invalidReading := by
  unfold State.invalidReading
  split
  · exact (setTime_data s _).trans (emit_data _ _)
  · exact DataStep.refl s

theorem clockTick_data : DataStep s s.clockTick :=
  ⟨⟨rfl, rfl, rfl, id⟩, rfl, rfl, rfl, fun _ => AdmLike.refl _⟩

theorem dropOldest_like (x : Flow) (l : Leg) : AdmLike x (x.dropOldest l) := setQueue_like x l _

theorem takeOldest_like (x : Flow) (l : Leg) : AdmLike x (x.takeOldest l) :=
  (dropOldest_like x l).trans (setCredit_like _ l _)

theorem countOn_like (x : Flow) (l : Leg) (g : LegCounts → LegCounts) : AdmLike x (x.countOn l g) :=
  ⟨rfl, rfl, .inl rfl⟩

theorem lateAtOffer_data (l : Leg) (e : Entry) : DataStep s (s.lateAtOffer l e) :=
  (((modFlow_data s _ _ (dropOldest_like _ l)).trans (countLate_data _ _ l)).trans (release_data _ _)).trans
    (modLegSettled_data _ l _)

theorem offerUnit_data (l : Leg) (e : Entry) : DataStep s (s.offerUnit l e) :=
  (modFlow_data s _ _ (takeOldest_like _ l)).trans (modLegSettled_data _ l _)

theorem sinkUnit_data (l : Leg) (e : Entry) : DataStep s (s.sinkUnit l e) :=
  ((modFlow_data s _ _ ((takeOldest_like _ l).trans (countOn_like _ l _))).trans (release_data _ _)).trans
    (modLegSettled_data _ l _)

theorem serve_data (l : Leg) (e : Entry) (now : Nat) : DataStep s (s.serve l e now) := by
  unfold State.serve
  split
  · exact lateAtOffer_data s l e
  · split
    · exact offerUnit_data s l e
    · exact sinkUnit_data s l e
    · exact sinkUnit_data s l e
    · exact DataStep.refl s

/-! ### Drains, intake and legs -/

theorem flushFlow_data (f : FlowId) : DataStep s (s.flushFlow f) :=
  (modFlow_data s f _ ⟨rfl, rfl, .inl rfl⟩).trans (releaseAll_data _ _)

theorem startDrain_data (f : FlowId) (h : (s.flow f).accepts = true) : DataStep s (s.startDrain f) :=
  (modFlow_data s f _ ⟨rfl, rfl, .inr ⟨by simp [Flow.holdsLoad, h], by simp [Flow.holdsLoad]⟩⟩).trans
    (releaseAll_data _ _)

theorem breakRun_data (f : FlowId) : DataStep s (s.breakRun f) := by
  unfold State.breakRun
  split
  · exact (modFlow_data s f _ ⟨rfl, rfl, .inl rfl⟩).trans (release_data _ _)
  · exact modFlow_data s f _ ⟨rfl, rfl, .inl rfl⟩
  · exact DataStep.refl s

theorem startUnit_data (f : FlowId) (p : Packet) (g : Flow → Nat → Flow) (h : ∀ x id, AdmLike x (g x id)) :
    DataStep s (s.startUnit f p g) := (setStore_data s _).trans (modFlow_data _ f (fun x => g x _) (h _ _))

theorem singleUnit_data (f : FlowId) (p : Packet) : DataStep s (s.singleUnit f p) := by
  unfold State.singleUnit
  split
  · exact startUnit_data s f p _ fun _ _ => ⟨rfl, rfl, .inl rfl⟩
  · exact modFlow_data s f _ ⟨rfl, rfl, .inl rfl⟩

theorem openRun_data (f : FlowId) (p : Packet) (closes : Bool) : DataStep s (s.openRun f p closes) := by
  unfold State.openRun
  split
  · exact startUnit_data s f p _ fun _ _ => by cases closes <;> exact ⟨rfl, rfl, .inl rfl⟩
  · exact modFlow_data s f _ ⟨rfl, rfl, .inl rfl⟩

theorem joinRun_data (f : FlowId) (p : Packet) (closes : Bool) (id : Nat) :
    DataStep s (s.joinRun f p closes id) := by
  unfold State.joinRun
  split
  · cases closes
    · exact setStore_data s _
    · rw [if_pos rfl]
      exact (setStore_data s _).trans (modFlow_data _ f _ ⟨rfl, rfl, .inl rfl⟩)
  · exact breakRun_data s f

theorem acceptPacket_data (f : FlowId) (p : Packet) : DataStep s (s.acceptPacket f p) := by
  unfold State.acceptPacket
  simp only
  split
  · exact (breakRun_data s f).trans (openRun_data _ f p _)
  · split
    · exact singleUnit_data s f p
    · exact joinRun_data s f p _ _
    · exact modFlow_data s f _ ⟨rfl, rfl, .inl rfl⟩

theorem judgePacket_data (flow : Byte) (p : Packet) : DataStep s (s.judgePacket flow p) := by
  unfold State.judgePacket
  split
  · exact setStore_data s _
  · split
    · exact setStore_data s _
    · split_ifs
      · exact setStore_data s _
      · exact (breakRun_data s _).trans (modFlow_data _ _ _ ⟨rfl, rfl, .inl rfl⟩)
      · exact acceptPacket_data s _ p

theorem countFor_data (h : Hand) (u : Bundle) (l : Leg) (g : LegCounts → LegCounts) :
    DataStep s (s.countFor h u l g) := by
  unfold State.countFor
  split
  · exact DataStep.refl s
  · exact modFlow_data s _ _ (countOn_like _ l g)

theorem finishUnit_data (l : Leg) (id : Nat) : DataStep s (s.finishUnit l id) :=
  (release_data s id).trans (modLegSettled_data _ l _)

theorem endUnit_data (l : Leg) (h : Hand) (u : Bundle) : DataStep s (s.endUnit l h u) :=
  ((countFor_data s h u l _).trans (modLeg_data _ l _)).trans (finishUnit_data _ l _)

theorem takePacket_data (l : Leg) (h : Hand) (u : Bundle) : DataStep s (s.takePacket l h u) := by
  unfold State.takePacket
  simp only
  split
  · exact (modLeg_data s l _).trans (modLeg_data _ l _)
  · exact ((modLeg_data s l _).trans ((countFor_data _ h u l _).trans (modLeg_data _ l _))).trans
      (finishUnit_data _ l _)

theorem retryPacket_data (l : Leg) (h : Hand) (u : Bundle) : DataStep s (s.retryPacket l h u) := by
  have hcount := (countFor_data s h u l (fun c => { c with retries := bump c.retries })).trans
    (modLeg_data _ l (fun x => x.count (fun c => { c with retries := bump c.retries })))
  unfold State.retryPacket
  simp only
  split
  · exact hcount.trans (modLeg_data _ l _)
  · exact hcount.trans (endUnit_data _ l h u)

theorem answer_data (l : Leg) (act : Hand → Bundle → State) (h : ∀ h u, DataStep s (act h u)) :
    DataStep s (s.answer l act) := by
  unfold State.answer
  split
  · exact modLeg_data s l _
  · split
    · exact modLeg_data s l _
    · split
      · exact h _ _
      · exact DataStep.refl s

theorem permitFalls_data (l : Leg) : DataStep s (s.permitFalls l) := by
  unfold State.permitFalls
  split
  · exact (modLegSettled_data s l _).trans (emit_data _ _)
  · exact modLeg_data s l _

theorem permitRises_data (l : Leg) : DataStep s (s.permitRises l) := by
  unfold State.permitRises
  split
  · exact (modLegSettled_data s l _).trans (emit_data _ _)
  · exact (modLegSettled_data s l _).trans (emit_data _ _)
  · exact modLeg_data s l _

theorem stallRanOut_data (l : Leg) (d : Nat) : DataStep s (s.stallRanOut l d) :=
  ((setClock_data s _).trans (modLegSettled_data _ l _)).trans (emit_data _ _)

theorem setFreeze_data (level : Bool) : DataStep s (s.setFreeze level) :=
  ⟨⟨rfl, rfl, rfl, id⟩, rfl, rfl, rfl, fun _ => AdmLike.refl _⟩

theorem legOut_data (l : Leg) : DataStep s (s.legOut l) := by
  refine DataStep.trans ?_ (emit_data _ _)
  split
  · exact DataStep.refl s
  · exact modLegSettled_data s l _

theorem legIn_data (l : Leg) : DataStep s (s.legIn l) := by
  refine DataStep.trans ?_ (emit_data _ _)
  split
  · exact modLegSettled_data s l _
  · exact DataStep.refl s

/-! ## The frame of admission and of the peer line -/

theorem setFlow_adm (f : FlowId) (x : Flow) (h : DataLike (s.flow f) x) : AdmStep s (s.setFlow f x) :=
  ⟨⟨rfl, rfl, rfl, id⟩, rfl, rfl, fun _ => .inl (s.leg_setFlow f x _), fun g => by
    rw [State.flow_setFlow]
    split
    · subst_vars; exact h
    · exact DataLike.refl _⟩

theorem modFlow_adm (f : FlowId) (g : Flow → Flow) (h : DataLike (s.flow f) (g (s.flow f))) :
    AdmStep s (s.modFlow f g) := setFlow_adm s f _ h

theorem setLine_adm (x : Line) : AdmStep s { s with line := x } :=
  ⟨⟨rfl, rfl, rfl, id⟩, rfl, rfl, fun _ => .inl rfl, fun _ => DataLike.refl _⟩

theorem setView_adm (x : View) : AdmStep s { s with view := x } :=
  ⟨⟨rfl, rfl, rfl, id⟩, rfl, rfl, fun _ => .inl rfl, fun _ => DataLike.refl _⟩

theorem setAdm_adm (x : Admission) : AdmStep s { s with adm := x } :=
  ⟨⟨rfl, rfl, rfl, id⟩, rfl, rfl, fun _ => .inl rfl, fun _ => DataLike.refl _⟩

theorem reach_adm (d : Nat) : AdmStep s (s.reach d) :=
  ⟨⟨rfl, rfl, rfl, id⟩, rfl, rfl, fun _ => .inl rfl, fun _ => DataLike.refl _⟩

theorem modLine_adm (g : Line → Line) : AdmStep s (s.modLine g) := setLine_adm s _

theorem modSendList_adm (g : List SendEntry → List SendEntry) : AdmStep s (s.modSendList g) := setLine_adm s _

theorem setPeer_adm (i : StationId) (e : PeerEntry) : AdmStep s (s.setPeer i e) := setView_adm s _

theorem placeLoad_adm : AdmStep s s.placeLoad := modSendList_adm s _

theorem placeLoadIfSpeaking_adm : AdmStep s s.placeLoadIfSpeaking := by
  unfold State.placeLoadIfSpeaking
  split
  · exact placeLoad_adm s
  · exact AdmStep.refl s

theorem syncLoad_adm : AdmStep s s.syncLoad := by
  unfold State.syncLoad
  split
  · exact placeLoad_adm s
  · exact AdmStep.refl s

theorem queueYield_adm (legs : Legs) (n : Nat) : AdmStep s (s.queueYield legs n) := by
  unfold State.queueYield
  split
  · exact modSendList_adm s _
  · exact AdmStep.refl s

theorem freed_like (x : Flow) : DataLike x x.freed := ⟨rfl, rfl, rfl, rfl, .inl rfl⟩

theorem setLeg_adm (l : Leg) (x : EgressLeg) (h : LegLike (s.leg l) x) : AdmStep s (s.setLeg l x) :=
  ⟨(setLeg_data s l x).toKeeps, by simp, by simp, fun m => by
    by_cases hm : m = l
    · subst hm; rwa [State.leg_setLeg_self]
    · rw [State.leg_setLeg_ne s hm]; exact LegLike.refl _,
    fun g => by rw [State.flow_setLeg]; exact DataLike.refl _⟩

theorem detach_adm (f : FlowId) (l : Leg) : AdmStep s (s.detach f l) := by
  unfold State.detach
  split
  next h hhand =>
    split
    · exact setLeg_adm s l _ (.inr ⟨h, hhand, rfl⟩)
    · exact AdmStep.refl s
  · exact AdmStep.refl s

theorem flowToFree_adm (f : FlowId) (reason : ClosedReason) : AdmStep s (s.flowToFree f reason) :=
  ((((((modFlow_adm s f _ (freed_like _)).trans (detach_adm _ f .a)).trans (detach_adm _ f .b)).trans
    (setAdm_adm _ _)).trans (queueYield_adm _ _ _)).trans (syncLoad_adm _)).trans (emit_adm _ _)

theorem withdrawFlow_adm (f : FlowId) : AdmStep s (s.withdrawFlow f) :=
  (modFlow_adm s f _ (freed_like _)).trans (emit_adm _ _)

theorem refuseFlow_adm (code : RefusedCode) (f : FlowId) : AdmStep s (s.refuseFlow code f) :=
  (modFlow_adm s f _ (freed_like _)).trans (emit_adm _ _)

theorem admitFlow_adm (f : FlowId) : AdmStep s (s.admitFlow f) :=
  (((setAdm_adm s _).trans (modFlow_adm _ f (fun x => { x with state := .armed }) ⟨rfl, rfl, rfl, rfl, .inl rfl⟩)).trans
    (syncLoad_adm _)).trans (emit_adm _ _)

theorem place_adm : AdmStep s s.place := by
  unfold State.place
  split
  · split
    · exact ((setAdm_adm s _).trans (modFlow_adm _ _ (fun x => { x with state := .claiming })
        ⟨rfl, rfl, rfl, rfl, .inl rfl⟩)).trans (modSendList_adm _ _)
    · exact AdmStep.refl s
  · exact AdmStep.refl s

theorem noClaim_adm : AdmStep s s.noClaim := setAdm_adm s _

theorem withdrawClaim_adm : AdmStep s s.withdrawClaim := setLine_adm s _

theorem claimCompleted_adm : AdmStep s s.claimCompleted := by
  unfold State.claimCompleted
  split
  · exact AdmStep.refl s
  · simp only
    split
    · refine AdmStep.trans ?_ ((withdrawFlow_adm _ _).trans (place_adm _))
      split
      · exact (noClaim_adm s).trans (queueYield_adm _ _ _)
      · exact noClaim_adm s
    · split
      · exact ((noClaim_adm s).trans (admitFlow_adm _ _)).trans (place_adm _)
      · exact ((noClaim_adm s).trans (refuseFlow_adm _ _ _)).trans (place_adm _)

/-- The CLAIM withdrawn, its flow withdrawn and the next placed. -/
theorem withdrawn_adm (f : FlowId) : AdmStep s (s.withdrawClaim.noClaim.withdrawFlow f).place :=
  (((withdrawClaim_adm s).trans (noClaim_adm _)).trans (withdrawFlow_adm _ f)).trans (place_adm _)

theorem claimLeftWire_adm : AdmStep s s.claimLeftWire := by
  unfold State.claimLeftWire
  split
  · exact AdmStep.refl s
  · split
    · exact withdrawn_adm s _
    · exact AdmStep.refl s

theorem claimTimedOut_adm (f : FlowId) : AdmStep s (s.claimTimedOut f) := by
  unfold State.claimTimedOut
  simp only
  split
  · exact withdrawn_adm s f
  · exact (((withdrawClaim_adm s).trans (noClaim_adm _)).trans (refuseFlow_adm _ _ f)).trans (place_adm _)

theorem withdrawUndecided_adm (f : FlowId) : AdmStep s (s.withdrawUndecided f) := by
  unfold State.withdrawUndecided
  split_ifs
  · exact (setAdm_adm s _).trans (withdrawFlow_adm _ f)
  · exact modFlow_adm s f _ ⟨rfl, rfl, rfl, rfl, .inl rfl⟩
  · exact withdrawn_adm s f

theorem handOver_adm (f : FlowId) : AdmStep s (s.handOver f) := by
  unfold State.handOver
  split
  · split
    · exact admitFlow_adm s f
    · exact refuseFlow_adm s _ f
  · exact (setAdm_adm s _).trans (place_adm _)
  · exact setAdm_adm s _
  · exact refuseFlow_adm s _ f
  · exact refuseFlow_adm s _ f

theorem declared_adm (f : FlowId) (p : Params) :
    AdmStep s ((s.modFlow f (fun x => x.declared p)).handOver f) :=
  (modFlow_adm s f _ ⟨rfl, rfl, rfl, rfl, .inr rfl⟩).trans (handOver_adm _ f)

theorem refuseUndecided_adm (code : RefusedCode) : AdmStep s (s.refuseUndecided code) := by
  unfold State.refuseUndecided
  refine AdmStep.trans ?_ ((foldl_adm (fun t f => refuseFlow_adm t code f) _ _).trans (setAdm_adm _ _))
  split
  · split
    · exact withdrawFlow_adm s _
    · exact refuseFlow_adm s code _
  · exact AdmStep.refl s

theorem setStation_adm (x : StationState) : AdmStep s (s.setStation x) := setView_adm s _

theorem enterIsolated_adm : AdmStep s s.enterIsolated :=
  (((setStation_adm s _).trans (setLine_adm _ _)).trans (emit_adm _ _)).trans (refuseUndecided_adm _ _)

theorem enterDuplicate_adm : AdmStep s s.enterDuplicate :=
  (((setStation_adm s _).trans (setLine_adm _ _)).trans (emit_adm _ _)).trans (refuseUndecided_adm _ _)

theorem detectDuplicate_adm : AdmStep s s.detectDuplicate := by
  unfold State.detectDuplicate
  split
  · exact enterDuplicate_adm s
  · exact AdmStep.refl s

theorem enterActive_adm : AdmStep s s.enterActive :=
  ((setStation_adm s _).trans (emit_adm _ _)).trans (place_adm _)

theorem enterRestored_adm : AdmStep s s.enterRestored :=
  ((setStation_adm s _).trans (setLine_adm _ _)).trans (emit_adm _ _)

/-! ### The peer line -/

theorem setReceiver_adm (r : Receiver) : AdmStep s (s.setReceiver r) := modLine_adm s _

theorem formatError_adm : AdmStep s s.formatError := modLine_adm s _

theorem applyNotice_adm (i : StationId) (n : Notice) : AdmStep s (s.applyNotice i n) := by
  have hhear : AdmStep s (s.hearPeer i) := by
    unfold State.hearPeer
    split
    · exact (setPeer_adm s i _).trans (emit_adm _ _)
    · exact setPeer_adm s i _
  refine hhear.trans ?_
  unfold State.applyNotice State.applyContent
  simp only
  split
  · exact setPeer_adm _ i _
  · split
    · exact setPeer_adm _ i _
    · exact AdmStep.refl _
  · exact setPeer_adm _ i _

theorem handOn_adm (i : StationId) (n : Notice) : AdmStep s (s.handOn i n) := by
  unfold State.handOn
  split
  · exact detectDuplicate_adm s
  · exact applyNotice_adm s i n

theorem judgeNotice_adm (cs : List Byte) : AdmStep s (s.judgeNotice cs) := by
  unfold State.judgeNotice
  split
  · exact modLine_adm s _
  · split
    · split
      · exact handOn_adm s _ _
      · exact formatError_adm s
    · exact formatError_adm s

theorem takeHeader_adm (value : Byte) : AdmStep s (s.takeHeader value) := by
  unfold State.takeHeader
  split
  · exact setReceiver_adm s _
  · exact (setReceiver_adm s _).trans (formatError_adm _)

theorem addCharacter_adm (cs : List Byte) (value : Byte) : AdmStep s (s.addCharacter cs value) := by
  unfold State.addCharacter
  simp only
  split
  · split_ifs
    · exact setReceiver_adm s _
    · exact setReceiver_adm s _
    · exact (setReceiver_adm s _).trans (judgeNotice_adm _ _)
  · exact setReceiver_adm s _

/-- The line at the stop bit of a character: a loss inside the character is judged first (R118, R126), and the bit
times are counted anew (R112). -/
def atStopBit : State :=
  let s0 := s.modLine (fun x => { x with freePoint := .normal, bodyLoss := false, bits := .zero })
  if s.line.bodyLoss then s0.detectDuplicate else s0

section
variable {s} {cs : List Byte} {value : Byte} (hline : s.onLine = true)
include hline

theorem takeCharacter_waitFree {mark : Bool} (h : s.line.receiver = .waitFree) : s.takeCharacter value mark = s := by
  simp [State.takeCharacter, hline, h]

theorem takeCharacter_hunt_body (h : s.line.receiver = .hunt) : s.takeCharacter value false = atStopBit s := by
  simp [State.takeCharacter, hline, h, atStopBit]

theorem takeCharacter_hunt_header (h : s.line.receiver = .hunt) :
    s.takeCharacter value true = (atStopBit s).takeHeader value := by
  simp [State.takeCharacter, hline, h, atStopBit]

theorem takeCharacter_body (h : s.line.receiver = .inNotice cs) :
    s.takeCharacter value false = (atStopBit s).addCharacter cs value := by
  simp [State.takeCharacter, hline, h, atStopBit]

theorem takeCharacter_header (h : s.line.receiver = .inNotice cs) :
    s.takeCharacter value true = (((atStopBit s).setReceiver .hunt).formatError).takeHeader value := by
  simp [State.takeCharacter, hline, h, atStopBit]

end

theorem takeCharacter_solo {s : State} (hline : s.onLine = false) (value : Byte) (mark : Bool) :
    s.takeCharacter value mark = s := by
  simp [State.takeCharacter, hline]

theorem atStopBit_adm : AdmStep s (atStopBit s) := by
  unfold atStopBit
  simp only
  split
  · exact (modLine_adm s _).trans (detectDuplicate_adm _)
  · exact modLine_adm s _

/-- What a character can do: nothing in SOLO and in WAIT_FREE, and otherwise, after the judgement of its stop bit, it
joins the notice, ends it early, or is a header. -/
theorem takeCharacter_cases (value : Byte) (mark : Bool) :
    s.takeCharacter value mark = s ∨ s.takeCharacter value mark = atStopBit s ∨
      (∃ cs, s.line.receiver = .inNotice cs ∧ s.takeCharacter value mark = (atStopBit s).addCharacter cs value) ∨
      s.takeCharacter value mark = (((atStopBit s).setReceiver .hunt).formatError).takeHeader value ∨
      s.takeCharacter value mark = (atStopBit s).takeHeader value := by
  cases hline : s.onLine with
  | false => exact .inl (takeCharacter_solo hline value mark)
  | true =>
    cases hr : s.line.receiver with
    | waitFree => exact .inl (takeCharacter_waitFree hline hr)
    | hunt =>
      cases mark with
      | false => exact .inr (.inl (takeCharacter_hunt_body hline hr))
      | true => exact .inr (.inr (.inr (.inr (takeCharacter_hunt_header hline hr))))
    | inNotice cs =>
      cases mark with
      | false => exact .inr (.inr (.inl ⟨cs, rfl, takeCharacter_body hline hr⟩))
      | true => exact .inr (.inr (.inr (.inl (takeCharacter_header hline hr))))

theorem takeCharacter_adm (value : Byte) (mark : Bool) : AdmStep s (s.takeCharacter value mark) := by
  obtain e | e | ⟨cs, -, e⟩ | e | e := takeCharacter_cases s value mark <;> rw [e]
  · exact AdmStep.refl s
  · exact atStopBit_adm s
  · exact (atStopBit_adm s).trans (addCharacter_adm _ cs value)
  · exact (((atStopBit_adm s).trans (setReceiver_adm _ _)).trans (formatError_adm _)).trans (takeHeader_adm _ value)
  · exact (atStopBit_adm s).trans (takeHeader_adm _ value)

theorem wireFree_adm : AdmStep s s.wireFree := by
  unfold State.wireFree
  split
  · exact setReceiver_adm s _
  · exact AdmStep.refl s
  · exact (setReceiver_adm s _).trans (formatError_adm _)

theorem loseArbitration_adm (n : Notice) : AdmStep s (s.loseArbitration n) := by
  unfold State.loseArbitration
  simp only
  split
  · exact (modLine_adm s _).trans (claimLeftWire_adm _)
  · exact modLine_adm s _

theorem completeNotice_adm (n : Notice) : AdmStep s (s.completeNotice n) := by
  unfold State.completeNotice
  simp only
  split
  · exact (modLine_adm s _).trans (claimCompleted_adm _)
  · exact modLine_adm s _

/-- A break heard, counted at the receiver (R124). -/
def breakNoted : State :=
  s.modLine (fun x =>
    { x.count (fun c => { c with breaksHeard := bump c.breaksHeard }) with
      receiver := .waitFree, bodyLoss := false, freePoint := .normal, bits := .broken })

theorem hearBreak_eq :
    s.hearBreak =
      (match s.line.sending with
        | some n =>
          if n.isClaim then ((breakNoted s).modLine Line.leaveWire).claimLeftWire
          else (breakNoted s).modLine Line.leaveWire
        | none => breakNoted s).placeLoadIfSpeaking := rfl

theorem hearBreak_adm : AdmStep s s.hearBreak := by
  rw [hearBreak_eq]
  refine AdmStep.trans ?_ (placeLoadIfSpeaking_adm _)
  split
  · split
    · exact ((modLine_adm s _).trans (modLine_adm _ _)).trans (claimLeftWire_adm _)
    · exact (modLine_adm s _).trans (modLine_adm _ _)
  · exact modLine_adm s _

theorem completeBreak_adm : AdmStep s s.completeBreak :=
  ((modLine_adm s _).trans (placeLoad_adm _)).trans (setView_adm _ _)

/-- The line at the sixty-fourth dominant bit time: a run that holds the own break is taken as heard (R123). -/
def atStuckWire : State := (if s.line.driving then s.hearBreak else s).modLine (fun x => { x with bits := .stuck })

theorem stuck_eq :
    s.stuck = if (atStuckWire s).view.station.speaks then (atStuckWire s).enterIsolated else atStuckWire s := rfl

theorem atStuckWire_adm : AdmStep s (atStuckWire s) := by
  unfold atStuckWire
  split
  · exact (hearBreak_adm s).trans (modLine_adm _ _)
  · exact modLine_adm s _

theorem stuck_adm : AdmStep s s.stuck := by
  rw [stuck_eq]
  split
  · exact (atStuckWire_adm s).trans (enterIsolated_adm _)
  · exact atStuckWire_adm s

/-! ### The Share View -/

theorem agePeer_adm (i : StationId) : AdmStep s (s.agePeer i) := by
  unfold State.agePeer
  simp only
  split_ifs
  · exact AdmStep.refl s
  · exact (setPeer_adm s i _).trans (emit_adm _ _)
  · exact (setPeer_adm s i _).trans (emit_adm _ _)
  · exact setPeer_adm s i _

theorem agePeers_adm : AdmStep s s.agePeers := by
  unfold State.agePeers
  split
  · exact foldl_adm agePeer_adm _ s
  · exact AdmStep.refl s

theorem restartRefresh_adm : AdmStep s s.restartRefresh := (reach_adm s _).trans (setView_adm _ _)

end Sys2Proof.Proofs.Frames
end

section
/-! What one command can do, said once: every command either idles or does one of the acts listed here, under the
conditions of its arm. The invariants are proved act by act. -/

namespace Sys2Proof.Proofs.Acts

open Sys2Proof Sys2Proof.Machine Sys2Proof.Proofs.Frames

/-! ## The outcomes of a command -/

section
variable {s t u : State}

theorem whenActing_next (h : whenActing s t = .next u) : u = s ∨ (s.inReset = false ∧ u = t) := by
  cases hr : s.inReset with
  | true => rw [whenActing_reset hr] at h; cases h; exact .inl rfl
  | false => rw [whenActing_acting hr] at h; cases h; exact .inr ⟨rfl, rfl⟩

theorem whenever_next {c : Bool} (h : whenever c s t = .next u) :
    u = s ∨ (s.inReset = false ∧ c = true ∧ u = t) := by
  cases hr : s.inReset with
  | true => rw [whenever_false (.inl hr)] at h; cases h; exact .inl rfl
  | false =>
    cases c with
    | false => rw [whenever_false (.inr rfl)] at h; cases h; exact .inl rfl
    | true => rw [whenever_true hr rfl] at h; cases h; exact .inr ⟨rfl, rfl, rfl⟩

theorem onRecord_next (h : onRecord s t = .next u) : u = s ∨ (s.intakeReady = true ∧ u = t) := by
  cases hr : s.intakeReady with
  | false => rw [onRecord_held hr] at h; cases h; exact .inl rfl
  | true => rw [onRecord_ready hr] at h; cases h; exact .inr ⟨rfl, rfl⟩

end

/-! ## The acts -/

/-- The acts of the data path, of the time port and of the outcome queue. -/
inductive DataAct (s : State) : Instr → State → Prop
  | idle (c : Instr) : DataAct s c s
  | port (c : Instr) (p : Port) (h : s.OutcomesBounded → p.outcomes.length ≤ 64) :
    DataAct s c { s with port := p }
  | latch (c : Instr) : DataAct s c { s with time := { s.time with latch := true } }
  | packet (c : Instr) (flow : Byte) (p : Packet) (ready : s.intakeReady = true) :
    DataAct s c (s.judgePacket flow p)
  | startDrain (c : Instr) (f : FlowId) (h : (s.flow f).accepts = true) : DataAct s c (s.startDrain f)
  | flush (c : Instr) (f : FlowId) (clock : Nat) (h : (s.flow f).holdsLoad = true) :
    DataAct s c (State.flushFlow { s with ownClock := clock } f)
  | validReading (c : Instr) (x : Nat) : DataAct s c (s.clockTick.validReading x)
  | invalidReading (c : Instr) : DataAct s c s.clockTick.invalidReading
  | examine (c : Instr) (f : FlowId) (id now : Nat) (rest : List Nat) (hq : (s.flow f).intakeQ = id :: rest)
    (hnow : s.now? = some now) (hb : (s.flow f).bindable = true) :
    DataAct s c (s.examineHead f id (s.unitFrameStart id) now)
  | serve (l : Leg) (e : Entry) (now : Nat) (hfit : s.fitted l = true) (hreq : (s.leg l).request = true)
    (hhand : (s.leg l).hand = none) (hnamed : s.named l = some e) (hnow : s.now? = some now) :
    DataAct s (.calendarNamesEntry l) (s.serve l e now)
  | take (l : Leg) : DataAct s (.take l) (s.answer l (s.takePacket l))
  | retry (l : Leg) : DataAct s (.retry l) (s.answer l (s.retryPacket l))
  | fault (l : Leg) : DataAct s (.fault l) (s.answer l (s.endUnit l))
  | reoffer (c : Instr) (l : Leg) (h : Hand) (hhand : (s.leg l).hand = some h)
    (hphase : h.phase = .retryWait true) :
    DataAct s c (s.modLeg l (fun x => x.withHand { h with phase := .offering }))
  | permitFalls (c : Instr) (l : Leg) : DataAct s c (s.permitFalls l)
  | permitRises (c : Instr) (l : Leg) : DataAct s c (s.permitRises l)
  | stallRanOut (c : Instr) (l : Leg) (d : Nat) : DataAct s c (s.stallRanOut l d)
  | setFreeze (c : Instr) (level : Bool) : DataAct s c (s.setFreeze level)
  | legOut (c : Instr) (l : Leg) : DataAct s c (s.legOut l)
  | legIn (c : Instr) (l : Leg) : DataAct s c (s.legIn l)

/-- The acts of admission, of the Share View and of the peer line. -/
inductive AdmAct (s : State) : State → Prop
  | declare (f : FlowId) (d : Declaration) (p : Params) (hfree : (s.flow f).state = .free)
    (hp : validate s.straps d = .inr p) : AdmAct s ((s.modFlow f (fun x => x.declared p)).handOver f)
  | withdraw (f : FlowId) (h : (s.flow f).state = .claimWait ∨ (s.flow f).state = .claiming) :
    AdmAct s (s.withdrawUndecided f)
  | claimTimeout (f : FlowId) (d : Nat) (h : s.adm.claiming = some f) : AdmAct s ((s.reach d).claimTimedOut f)
  | clock (d : Nat) : AdmAct s (s.reach d)
  | character (value : Byte) (mark : Bool) : AdmAct s (s.takeCharacter value mark)
  | framingError : AdmAct s (s.modLine (fun x =>
      { x.count (fun c => { c with framingErrors := bump c.framingErrors }) with
        receiver := .waitFree, bodyLoss := false, freePoint := .normal, bits := .zero }))
  | wireFree : AdmAct s (s.wireFree.modLine (fun x => { x with bodyLoss := false, bits := .idle }))
  | noticeStart (hs : s.view.station.speaks = true) (hsend : s.line.sending = none)
    (hdrive : s.line.driving = false) (hlist : s.line.sendList ≠ []) : AdmAct s s.startNotice
  | loss (n : Notice) (h : s.line.sending = some n) : AdmAct s (s.loseArbitration n)
  | complete (n : Notice) (h : s.line.sending = some n) : AdmAct s (s.completeNotice n)
  | breakStart (hs : s.view.station.speaks = true) (hsend : s.line.sending = none) :
    AdmAct s (s.wireFree.modLine (fun x =>
      { x with driving := true, freePoint := .normal, bodyLoss := false, bits := .zero }))
  | breakHeard (hdrive : s.line.driving = false) : AdmAct s s.hearBreak
  | breakComplete (hdrive : s.line.driving = true) (hs : s.view.station = .listenIn) : AdmAct s s.completeBreak
  | breakHeld (hdrive : s.line.driving = true) (hs : s.view.station = .listenIn) :
    AdmAct s s.hearBreak.completeBreak
  | stuck : AdmAct s s.stuck
  | restored (hs : s.view.station = .isolated) : AdmAct s s.enterRestored
  | listened (d : Nat) (hs : s.view.station = .listenIn) : AdmAct s (s.reach d).enterActive
  | refresh : AdmAct s s.restartRefresh.agePeers.placeLoadIfSpeaking

/-- What a command can do. The passage to FREE of a flow that holds load comes last in an event that left it
drained. -/
inductive Act (s : State) : Instr → State → Prop
  | hold : Act s .resetAssert { s with inReset := true }
  | reset (straps : Straps) (a b z : Bool) :
    Act s (.resetEnd straps a b z) (State.afterReset straps a b z s.pending)
  | data {c : Instr} {t : State} (h : DataAct s c t) : Act s c t
  | adm {c : Instr} {t : State} (h : AdmAct s t) : Act s c t
  | ended {c : Instr} {u : State} (f : FlowId) (reason : ClosedReason) (h : DataAct s c u)
    (hload : (u.flow f).holdsLoad = true) (hdrained : (u.flow f).drained = true)
    (hslot : (u.flow f).slot = .empty ∨ (u.flow f).state = .draining) :
    Act s c (u.flowToFree f reason)

/-! ## Every command does one of them -/

section
variable {s t : State} {c : Instr}

theorem emit_act (o : Outcome) : DataAct s c (s.emit o) := .port c _ (add_length_le _ _ _)

theorem withFlow_cases (s : State) (b d : Byte) (act : FlowId → State) :
    (∃ f, s.withFlow b d act = act f) ∨ s.withFlow b d act = s.refuse .badFlow b d := by
  unfold State.withFlow
  split
  · exact .inl ⟨_, rfl⟩
  · exact .inr rfl

theorem withLeg_cases (s : State) (b : Byte) (act : Leg → State) :
    (∃ l, s.withLeg b act = act l) ∨ s.withLeg b act = s.refuse .badLeg b codeLegControl := by
  unfold State.withLeg
  split
  · exact .inl ⟨_, rfl⟩
  · exact .inr rfl

/-- A directive that names a flow does what it does for the flow, or is refused. -/
theorem act_of_withFlow {b d : Byte} {act : FlowId → State} (h : onRecord s (s.withFlow b d act) = .next t)
    (hact : ∀ f, Act s c (act f)) : Act s c t := by
  obtain rfl | ⟨-, rfl⟩ := onRecord_next h
  · exact .data (.idle c)
  · obtain ⟨f, e⟩ | e := withFlow_cases s b d act <;> rw [e]
    · exact hact f
    · exact .data (emit_act _)

theorem act_of_withLeg {b : Byte} {act : Leg → State} (h : onRecord s (s.withLeg b act) = .next t)
    (hact : ∀ l, Act s c (act l)) : Act s c t := by
  obtain rfl | ⟨-, rfl⟩ := onRecord_next h
  · exact .data (.idle c)
  · obtain ⟨l, e⟩ | e := withLeg_cases s b act <;> rw [e]
    · exact hact l
    · exact .data (emit_act _)

theorem act_of_onRecord (h : onRecord s u = .next t) (hact : s.intakeReady = true → Act s c u) : Act s c t := by
  obtain rfl | ⟨hready, rfl⟩ := onRecord_next h
  · exact .data (.idle c)
  · exact hact hready

theorem act_of_whenActing {u : State} (h : whenActing s u = .next t) (hact : Act s c u) : Act s c t := by
  obtain rfl | ⟨-, rfl⟩ := whenActing_next h
  · exact .data (.idle c)
  · exact hact

theorem act_of_whenever {u : State} {cond : Bool} (h : whenever cond s u = .next t)
    (hact : cond = true → Act s c u) : Act s c t := by
  obtain rfl | ⟨-, hc, rfl⟩ := whenever_next h
  · exact .data (.idle c)
  · exact hact hc

theorem act_of_idle (h : (Host.Outcome.next s : Host.Outcome State Fault Refusal) = .next t) : Act s c t := by
  cases h
  exact .data (.idle c)

theorem act_declareFlow (d : Declaration) (f : FlowId) : Act s c (declareFlow d f s) := by
  unfold declareFlow
  split
  · exact .data (emit_act _)
  next hfree =>
    split
    · exact .data (emit_act _)
    next hp => exact .adm (.declare f d _ (not_not.mp hfree) hp)

theorem flushFlow_slot (s : State) (f : FlowId) : ((s.flushFlow f).flow f).slot = .empty := by
  simp [State.flushFlow, State.modFlow]

theorem startDrain_slot (s : State) (f : FlowId) : ((s.startDrain f).flow f).slot = .empty := by
  simp [State.startDrain, State.modFlow]

theorem flushFlow_drained (s : State) (f : FlowId) : ((s.flushFlow f).flow f).drained = true := by
  simp [State.flushFlow, State.modFlow, Flow.drained]

theorem act_startDrain (f : FlowId) (h : (s.flow f).accepts = true) : Act s c ((s.startDrain f).drainTest f) := by
  unfold State.drainTest
  split
  next hdrained =>
    refine .ended f .drained (.startDrain c f h) ?_ hdrained (.inl (startDrain_slot s f))
    rw [(startDrain_data s f h).flows f |>.holdsLoad]
    simp [Flow.holdsLoad, h]
  · exact .data (.startDrain c f h)

theorem act_flush (f : FlowId) (clock : Nat) (reason : ClosedReason) (h : (s.flow f).holdsLoad = true) :
    Act s c ((State.flushFlow { s with ownClock := clock } f).flowToFree f reason) := by
  refine .ended f reason (.flush c f clock h) ?_ (flushFlow_drained _ f) (.inl (flushFlow_slot _ f))
  rw [(flushFlow_data { s with ownClock := clock } f).flows f |>.holdsLoad]
  exact h

theorem act_closeFlow (flow : Byte) (f : FlowId) : Act s c (closeFlow flow f s) := by
  unfold closeFlow
  split
  next => exact .data (emit_act _)
  next => exact .data (emit_act _)
  next h => exact .adm (.withdraw f (.inl h))
  next h =>
    split
    · exact .data (emit_act _)
    · exact .adm (.withdraw f (.inr h))
  next h => exact act_startDrain f (by simp [Flow.accepts, h])
  next h => exact act_startDrain f (by simp [Flow.accepts, h])

theorem act_abandonFlow (flow : Byte) (f : FlowId) : Act s c (abandonFlow flow f s) := by
  unfold abandonFlow
  split
  next => exact .data (emit_act _)
  next h => exact .adm (.withdraw f (.inl h))
  next h =>
    split
    · exact .data (emit_act _)
    · exact .adm (.withdraw f (.inr h))
  next h => exact act_flush f s.ownClock _ (by simp [Flow.holdsLoad, Flow.accepts, h])
  next h => exact act_flush f s.ownClock _ (by simp [Flow.holdsLoad, Flow.accepts, h])
  next h => exact act_flush f s.ownClock _ (by simp [Flow.holdsLoad, h])

theorem foldl_emit_eq {α : Type} (g : α → Outcome) (as : List α) (s : State) :
    as.foldl (fun t a => t.emit (g a)) s =
      { s with port := (as.map g).foldl (fun p o => p.add s.stationTime o) s.port } := by
  induction as generalizing s with
  | nil => rfl
  | cons a as ih => rw [List.foldl_cons, ih]; rfl

theorem foldl_add_length_le (os : List Outcome) (time : Nat) (p : Port) (h : p.outcomes.length ≤ 64) :
    (os.foldl (fun p o => p.add time o) p).outcomes.length ≤ 64 := by
  induction os generalizing p with
  | nil => exact h
  | cons o os ih => exact ih _ (add_length_le p time o h)

theorem act_reportPeers : Act s c s.reportPeers := by
  unfold State.reportPeers
  rw [foldl_emit_eq]
  exact .data (.port c _ fun h => add_length_le _ _ _ (foldl_add_length_le _ _ _ h))

theorem mayStart_iff (s : State) (n : Nat) : s.mayStart n = true ↔
    s.view.station.speaks = true ∧ s.line.sending = none ∧ s.line.driving = false ∧ s.line.freePoint.bits ≤ n := by
  simp [State.mayStart, and_assoc]

/-- The acts are all that a command can do. -/
theorem act_of_exec (h : exec c s = .next t) : Act s c t := by
  cases c with
  | resetAssert => cases h; exact .hold
  | resetEnd straps a b z => cases h; exact .reset straps a b z
  | packetArrival => exact act_of_onRecord h fun hready => .data (.packet _ _ _ hready)
  | declare d => exact act_of_withFlow h fun f => act_declareFlow d f
  | close flow => exact act_of_withFlow h fun f => act_closeFlow flow f
  | abandon flow => exact act_of_withFlow h fun f => act_abandonFlow flow f
  | queryFlow => exact act_of_withFlow h fun f => .data (emit_act _)
  | queryPeers => exact act_of_onRecord h fun _ => act_reportPeers
  | queryStation => exact act_of_onRecord h fun _ => .data (emit_act _)
  | legControlOut => exact act_of_withLeg h fun l => .data (.legOut _ l)
  | legControlIn => exact act_of_withLeg h fun l => .data (.legIn _ l)
  | unknownDirective => exact act_of_onRecord h fun _ => .data (emit_act _)
  | outcomeDeliveryStart => exact act_of_whenever h fun _ => .data (.port _ _ id)
  | outcomeDeliveryEnd ready =>
    refine act_of_whenever h fun _ => .data (.port _ _ fun hle => ?_)
    rw [Port.delivered, List.length_tail]
    exact (Nat.sub_le _ _).trans hle
  | timeStepStrobe => exact act_of_whenActing h (.data (.latch _))
  | timeReading valid value =>
    refine act_of_whenActing h ?_
    split
    · exact .data (.validReading _ _)
    · exact .data (.invalidReading _)
  | binderExamination f =>
    change execBinderExamination f s = .next t at h
    unfold execBinderExamination at h
    split at h
    next hq hnow => exact act_of_whenever h fun hb => .data (.examine _ f _ _ _ hq hnow hb)
    · exact act_of_idle h
  | calendarNamesEntry l =>
    change execCalendarNamesEntry l s = .next t at h
    unfold execCalendarNamesEntry at h
    split at h
    next hnamed hnow =>
      refine act_of_whenever h fun hc => ?_
      rw [Bool.and_eq_true, State.requestOpen_iff, Option.isNone_iff_eq_none] at hc
      obtain ⟨⟨-, hfit, hreq⟩, hhand⟩ := hc
      exact .data (.serve l _ _ hfit hreq hhand hnamed hnow)
    · exact act_of_idle h
  | take l => exact act_of_whenever h fun _ => .data (.take l)
  | retry l => exact act_of_whenever h fun _ => .data (.retry l)
  | fault l => exact act_of_whenever h fun _ => .data (.fault l)
  | retryReoffer l =>
    change execRetryReoffer l s = .next t at h
    unfold execRetryReoffer at h
    split at h
    next hhand =>
      refine act_of_whenever h fun hc => ?_
      rw [Bool.and_eq_true, beq_iff_eq] at hc
      exact .data (.reoffer _ l _ hhand hc.2)
    · exact act_of_idle h
  | permitFall l => exact act_of_whenever h fun _ => .data (.permitFalls _ l)
  | permitRise l => exact act_of_whenever h fun _ => .data (.permitRises _ l)
  | stallTimeout l =>
    change execStallTimeout l s = .next t at h
    unfold execStallTimeout at h
    split at h
    · exact act_of_whenever h fun _ => .data (.stallRanOut _ l _)
    · exact act_of_idle h
  | freezeRise => exact act_of_whenActing h (.data (.setFreeze _ true))
  | freezeFall => exact act_of_whenActing h (.data (.setFreeze _ false))
  | drainComplete f =>
    refine act_of_whenever h fun hc => ?_
    rw [Bool.and_eq_true, beq_iff_eq] at hc
    obtain ⟨hst, hdrained⟩ := hc
    exact .ended f _ (.idle _) (by simp [Flow.holdsLoad, hst]) hdrained (.inr hst)
  | drainLimit f =>
    change execDrainLimit f s = .next t at h
    unfold execDrainLimit at h
    split at h
    · refine act_of_whenever h fun hc => ?_
      rw [beq_iff_eq] at hc
      exact act_flush f _ _ (by simp [Flow.holdsLoad, hc])
    · exact act_of_idle h
  | claimTimeout last =>
    change execClaimTimeout last s = .next t at h
    unfold execClaimTimeout at h
    split at h
    next hclaim _ =>
      refine act_of_whenActing h ?_
      split
      · exact .adm (.clock _)
      · exact .adm (.claimTimeout _ _ hclaim)
    · exact act_of_idle h
  | noticeStart n =>
    refine act_of_whenever h fun hc => ?_
    simp only [Bool.and_eq_true, mayStart_iff] at hc
    obtain ⟨⟨⟨hs, hsend, hdrive, -⟩, -⟩, hlist⟩ := hc
    exact .adm (.noticeStart hs hsend hdrive (by simpa using hlist))
  | arbitrationLoss =>
    change execArbitrationLoss s = .next t at h
    unfold execArbitrationLoss at h
    split at h
    next hsend => exact act_of_whenActing h (.adm (.loss _ hsend))
    · exact act_of_idle h
  | noticeComplete =>
    change execNoticeComplete s = .next t at h
    unfold execNoticeComplete at h
    split at h
    next hsend => exact act_of_whenActing h (.adm (.complete _ hsend))
    · exact act_of_idle h
  | noticeReceived => exact act_of_whenActing h (.adm (.character _ _))
  | framingError => exact act_of_whenever h fun _ => .adm .framingError
  | unknownHeader => exact act_of_whenActing h (.adm (.character _ _))
  | wireFree => exact act_of_whenever h fun _ => .adm .wireFree
  | breakStart n =>
    refine act_of_whenever h fun hc => ?_
    simp only [Bool.and_eq_true, mayStart_iff] at hc
    obtain ⟨⟨hs, hsend, -, -⟩, -⟩ := hc
    exact .adm (.breakStart hs hsend)
  | breakComplete held =>
    refine act_of_whenever h fun hc => ?_
    rw [Bool.and_eq_true, beq_iff_eq] at hc
    split
    · exact .adm (.breakHeld hc.1 hc.2)
    · exact .adm (.breakComplete hc.1 hc.2)
  | breakHeard => exact act_of_whenever h fun hc => .adm (.breakHeard (by simp at hc; exact hc.2))
  | stuckLine => exact act_of_whenever h fun _ => .adm .stuck
  | wireRestored => exact act_of_whenever h fun hc => .adm (.restored (by simpa using hc))
  | listenInTimeout =>
    change execListenInTimeout s = .next t at h
    unfold execListenInTimeout at h
    split at h
    · exact act_of_whenever h fun hc => .adm (.listened _ (by simpa using hc))
    · exact act_of_idle h
  | refreshTick => exact act_of_whenActing h (.adm .refresh)
  | characterReceived => exact act_of_whenActing h (.adm (.character _ _))

/-- Every command answers a next state. -/
theorem exec_answers_next (c : Instr) (s : State) : ∃ t, exec c s = .next t := by
  cases c with
  | binderExamination f =>
    change ∃ t, execBinderExamination f s = .next t
    unfold execBinderExamination
    split <;> exact ⟨_, rfl⟩
  | calendarNamesEntry l =>
    change ∃ t, execCalendarNamesEntry l s = .next t
    unfold execCalendarNamesEntry
    split <;> exact ⟨_, rfl⟩
  | retryReoffer l =>
    change ∃ t, execRetryReoffer l s = .next t
    unfold execRetryReoffer
    split <;> exact ⟨_, rfl⟩
  | stallTimeout l =>
    change ∃ t, execStallTimeout l s = .next t
    unfold execStallTimeout
    split <;> exact ⟨_, rfl⟩
  | drainLimit f =>
    change ∃ t, execDrainLimit f s = .next t
    unfold execDrainLimit
    split <;> exact ⟨_, rfl⟩
  | claimTimeout last =>
    change ∃ t, execClaimTimeout last s = .next t
    unfold execClaimTimeout
    split <;> exact ⟨_, rfl⟩
  | arbitrationLoss =>
    change ∃ t, execArbitrationLoss s = .next t
    unfold execArbitrationLoss
    split <;> exact ⟨_, rfl⟩
  | noticeComplete =>
    change ∃ t, execNoticeComplete s = .next t
    unfold execNoticeComplete
    split <;> exact ⟨_, rfl⟩
  | listenInTimeout =>
    change ∃ t, execListenInTimeout s = .next t
    unfold execListenInTimeout
    split <;> exact ⟨_, rfl⟩
  | _ => exact ⟨_, rfl⟩

end

/-! ## The frames of the acts -/

section
variable {s t : State} {c : Instr}

theorem DataAct.step (h : DataAct s c t) : DataStep s t := by
  cases h with
  | idle => exact DataStep.refl s
  | port c p h => exact setPort_data s p h
  | latch => exact setTime_data s _
  | packet => exact judgePacket_data s _ _
  | startDrain c f h => exact startDrain_data s f h
  | flush c f clock h => exact (setClock_data s clock).trans (flushFlow_data _ f)
  | validReading c x => exact (clockTick_data s).trans (validReading_data _ x)
  | invalidReading => exact (clockTick_data s).trans (invalidReading_data _)
  | examine => exact examineHead_data s _ _ _ _
  | serve => exact serve_data s _ _ _
  | take l => exact answer_data s l _ fun h u => takePacket_data s l h u
  | retry l => exact answer_data s l _ fun h u => retryPacket_data s l h u
  | fault l => exact answer_data s l _ fun h u => endUnit_data s l h u
  | reoffer c l => exact modLeg_data s l _
  | permitFalls c l => exact permitFalls_data s l
  | permitRises c l => exact permitRises_data s l
  | stallRanOut c l d => exact stallRanOut_data s l d
  | setFreeze c level => exact setFreeze_data s level
  | legOut c l => exact legOut_data s l
  | legIn c l => exact legIn_data s l

theorem AdmAct.step (h : AdmAct s t) : AdmStep s t := by
  cases h with
  | declare f d p => exact declared_adm s f p
  | withdraw f => exact withdrawUndecided_adm s f
  | claimTimeout f d => exact (reach_adm s d).trans (claimTimedOut_adm _ f)
  | clock d => exact reach_adm s d
  | character value mark => exact takeCharacter_adm s value mark
  | framingError => exact modLine_adm s _
  | wireFree => exact (wireFree_adm s).trans (modLine_adm _ _)
  | noticeStart => exact (wireFree_adm s).trans (modLine_adm _ _)
  | loss n => exact loseArbitration_adm s n
  | complete n => exact completeNotice_adm s n
  | breakStart => exact (wireFree_adm s).trans (modLine_adm _ _)
  | breakHeard => exact hearBreak_adm s
  | breakComplete => exact completeBreak_adm s
  | breakHeld => exact (hearBreak_adm s).trans (completeBreak_adm _)
  | stuck => exact stuck_adm s
  | restored => exact enterRestored_adm s
  | listened d => exact (reach_adm s d).trans (enterActive_adm _)
  | refresh => exact ((restartRefresh_adm s).trans (agePeers_adm _)).trans (placeLoadIfSpeaking_adm _)

/-- A command but the two of reset keeps the queue of commands and the straps. -/
theorem Act.keeps (h : Act s c t) (hhold : c ≠ .resetAssert)
    (hreset : ∀ straps a b z, c ≠ .resetEnd straps a b z) : Keeps s t := by
  cases h with
  | hold => exact absurd rfl hhold
  | reset straps a b z => exact absurd rfl (hreset straps a b z)
  | data h => exact h.step.toKeeps
  | adm h => exact h.step.toKeeps
  | ended f reason h => exact h.step.toKeeps.trans (flowToFree_adm _ f reason).toKeeps

/-- What holds of an act's end from what holds of the state it begins from: the acts of admission and a passage to
FREE by their common frame, the acts of the data path one by one. -/
theorem Act.kept_by_data {P : State → Prop} (h : Act s c t) (hs : P s) (hhold : P { s with inReset := true })
    (hreset : ∀ straps a b z, P (State.afterReset straps a b z s.pending)) (hdata : ∀ t, DataAct s c t → P t)
    (hadm : ∀ u t, P u → AdmStep u t → P t) : P t := by
  cases h with
  | hold => exact hhold
  | reset straps a b z => exact hreset straps a b z
  | data h => exact hdata _ h
  | adm h => exact hadm _ _ hs h.step
  | ended f reason h => exact hadm _ _ (hdata _ h) (flowToFree_adm _ f reason)

/-- A step either idles, or does an act of a command on the rest of the queue. -/
theorem act_of_step {s t : State} (h : step s = .next t) :
    t = s ∨ ∃ c rest, Act { s with pending := rest } c t := by
  unfold step at h
  split at h
  · cases h; exact .inl rfl
  next c rest _ => exact .inr ⟨c, rest, act_of_exec h⟩

end

/-- Settles O1: by the definition of a step. -/
theorem stepRunsTheFrontCommand : Obligations.StepRunsTheFrontCommand := by
  intro s
  constructor
  · intro h
    simp [step, h]
  · intro c rest h
    simp [step, h]

/-- Settles O2: the acts that are not of reset keep the queue and the bound, and those of reset do so directly. -/
theorem everyCommandAnswersNext : Obligations.EveryCommandAnswersNext := by
  intro c s
  obtain ⟨t, ht⟩ := exec_answers_next c s
  refine ⟨t, ht, ?_⟩
  cases act_of_exec ht with
  | hold => exact ⟨rfl, id⟩
  | reset straps a b z => exact ⟨rfl, fun _ => Nat.zero_le _⟩
  | data h => exact ⟨h.step.pending, h.step.bounded⟩
  | adm h => exact ⟨h.step.pending, h.step.bounded⟩
  | ended f reason h =>
    have hk := h.step.toKeeps.trans (flowToFree_adm _ f reason).toKeeps
    exact ⟨hk.pending, hk.bounded⟩

end Sys2Proof.Proofs.Acts
end

section
/-! The counters (R2, R37, R107, R128) and the counts of bit times (R112, R120). Every operation of the data path
keeps the counters within their bound; those that do not speak of one leg moreover leave the legs as they are but for
their counters. -/

namespace Sys2Proof.Proofs.Counters

open Sys2Proof Sys2Proof.Machine Sys2Proof.Proofs.Frames Sys2Proof.Proofs.Acts

/-! ## Raised counters -/

theorem raise_eq_ite (c d : Nat) : raise c d = if c + d ≤ 4294967295 then c + d else 4294967295 := by
  unfold raise Config.counterMax
  split <;> omega

@[simp] theorem raise_bounded (c d : Nat) : raise c d ≤ 4294967295 := raise_le c d

@[simp] theorem bump_bounded (c : Nat) : bump c ≤ 4294967295 := raise_le c 1

/-- Every value is within the bound of a counter. -/
def Bounded (cs : List Nat) : Prop := ∀ c ∈ cs, c ≤ 4294967295

@[simp] theorem legCounts_bounded_iff (c : LegCounts) : Bounded c.values ↔
    c.sent ≤ 4294967295 ∧ c.late ≤ 4294967295 ∧ c.lag ≤ 4294967295 ∧ c.sink ≤ 4294967295 ∧
      c.fault ≤ 4294967295 ∧ c.retries ≤ 4294967295 := by
  simp [Bounded, LegCounts.values]

@[simp] theorem legTotals_bounded_iff (c : LegTotals) : Bounded c.values ↔
    c.packetsTaken ≤ 4294967295 ∧ c.unitsSent ≤ 4294967295 ∧ c.retries ≤ 4294967295 ∧ c.faults ≤ 4294967295 ∧
      c.strayAnswer ≤ 4294967295 ∧ c.sinkTotal ≤ 4294967295 ∧ c.lateTotal ≤ 4294967295 ∧
      c.lagTotal ≤ 4294967295 := by
  simp [Bounded, LegTotals.values]

@[simp] theorem lineCounters_bounded_iff (c : LineCounters) : Bounded c.values ↔
    c.noticesSent ≤ 4294967295 ∧ c.losses ≤ 4294967295 ∧ c.framingErrors ≤ 4294967295 ∧
      c.checkErrors ≤ 4294967295 ∧ c.formatErrors ≤ 4294967295 ∧ c.breaksHeard ≤ 4294967295 := by
  simp [Bounded, LineCounters.values]

theorem bounded_append {as bs : List Nat} : Bounded (as ++ bs) ↔ Bounded as ∧ Bounded bs := by
  simp [Bounded, or_imp, forall_and]

@[simp] theorem flowCounters_bounded_iff (c : FlowCounters) : Bounded c.values ↔
    (Bounded c.legA.values ∧ Bounded c.legB.values) ∧ c.intakeOver ≤ 4294967295 ∧ c.oversize ≤ 4294967295 ∧
      c.runMalformed ≤ 4294967295 ∧ c.shortFrame ≤ 4294967295 ∧ c.longFrame ≤ 4294967295 ∧
      c.lockDiscard ≤ 4294967295 ∧ c.skipped ≤ 4294967295 ∧ c.step ≤ 4294967295 ∧ c.closeFlush ≤ 4294967295 := by
  rw [FlowCounters.values, bounded_append, bounded_append]
  simp [Bounded]

theorem bounded_zero : Bounded FlowCounters.zero.values := by
  unfold Bounded
  decide

/-! ## The frames -/

/-- The counters of the flows, the legs and the intake stay within their bound. -/
structure Counts (s t : State) : Prop where
  flows : ∀ f, Bounded (s.flow f).counters.values → Bounded (t.flow f).counters.values
  legs : ∀ l, Bounded (s.leg l).counters.values → Bounded (t.leg l).counters.values
  stray : s.store.stray ≤ 4294967295 → t.store.stray ≤ 4294967295
  badLength : s.store.badLength ≤ 4294967295 → t.store.badLength ≤ 4294967295

/-- Moreover the legs stay but for their counters. -/
structure Quiet (s t : State) : Prop extends Counts s t where
  freeze : t.freeze = s.freeze
  same : ∀ l, t.leg l = { s.leg l with counters := (t.leg l).counters }

theorem Counts.refl (s : State) : Counts s s := ⟨fun _ => id, fun _ => id, id, id⟩

theorem Counts.trans {s t u : State} (h : Counts s t) (k : Counts t u) : Counts s u :=
  ⟨fun f => k.flows f ∘ h.flows f, fun l => k.legs l ∘ h.legs l, k.stray ∘ h.stray, k.badLength ∘ h.badLength⟩

theorem Quiet.refl (s : State) : Quiet s s := ⟨Counts.refl s, rfl, fun _ => rfl⟩

theorem Quiet.trans {s t u : State} (h : Quiet s t) (k : Quiet t u) : Quiet s u :=
  ⟨h.toCounts.trans k.toCounts, k.freeze.trans h.freeze, fun l => by rw [k.same l, h.same l]⟩

theorem foldl_quiet {α : Type} {turn : State → α → State} (h : ∀ s a, Quiet s (turn s a)) (as : List α)
    (s : State) : Quiet s (as.foldl turn s) := foldl_rel Quiet.refl Quiet.trans h as s

variable (s : State)

/-! ## The primitive operations -/

theorem emit_quiet (o : Outcome) : Quiet s (s.emit o) := ⟨⟨fun _ => id, fun _ => id, id, id⟩, rfl, fun _ => rfl⟩

theorem setFlow_quiet (f : FlowId) (x : Flow) (h : Bounded (s.flow f).counters.values → Bounded x.counters.values) :
    Quiet s (s.setFlow f x) := by
  refine ⟨⟨fun g => ?_, fun _ => id, id, id⟩, rfl, fun _ => rfl⟩
  rw [State.flow_setFlow]
  split
  · subst_vars; exact h
  · exact id

theorem modFlow_quiet (f : FlowId) (g : Flow → Flow)
    (h : Bounded (s.flow f).counters.values → Bounded (g (s.flow f)).counters.values) : Quiet s (s.modFlow f g) :=
  setFlow_quiet s f _ h

theorem setStore_quiet (st : Store) (hs : s.store.stray ≤ 4294967295 → st.stray ≤ 4294967295)
    (hb : s.store.badLength ≤ 4294967295 → st.badLength ≤ 4294967295) : Quiet s { s with store := st } :=
  ⟨⟨fun _ => id, fun _ => id, hs, hb⟩, rfl, fun _ => rfl⟩

theorem release_quiet (id : Nat) : Quiet s (s.release id) := by
  obtain ⟨-, -, hstray, hbad⟩ := s.store.release_pool id
  exact setStore_quiet s _ hstray.le.trans hbad.le.trans

theorem releaseAll_quiet (ids : List Nat) : Quiet s (s.releaseAll ids) := foldl_quiet release_quiet ids s

theorem setTime_quiet (x : TimeState) : Quiet s { s with time := x } :=
  ⟨⟨fun _ => id, fun _ => id, id, id⟩, rfl, fun _ => rfl⟩

theorem setPort_quiet (x : Port) : Quiet s { s with port := x } :=
  ⟨⟨fun _ => id, fun _ => id, id, id⟩, rfl, fun _ => rfl⟩

theorem setClock_quiet (n : Nat) : Quiet s { s with ownClock := n } :=
  ⟨⟨fun _ => id, fun _ => id, id, id⟩, rfl, fun _ => rfl⟩

theorem setLeg_counts (l : Leg) (x : EgressLeg)
    (h : Bounded (s.leg l).counters.values → Bounded x.counters.values) : Counts s (s.setLeg l x) := by
  refine ⟨fun f => by rw [State.flow_setLeg]; exact id, fun m => ?_, by rw [State.setLeg_store]; exact id,
    by rw [State.setLeg_store]; exact id⟩
  by_cases hm : m = l
  · subst hm; rwa [State.leg_setLeg_self]
  · rw [State.leg_setLeg_ne s hm]; exact id

/-- A leg changed without its counters. -/
theorem modLeg_counts (l : Leg) (g : EgressLeg → EgressLeg) (h : (g (s.leg l)).counters = (s.leg l).counters) :
    Counts s (s.modLeg l g) := setLeg_counts s l _ (by rw [h]; exact id)

theorem modLegSettled_counts (l : Leg) (g : EgressLeg → EgressLeg)
    (h : Bounded (s.leg l).counters.values → Bounded (g (s.leg l)).counters.values) :
    Counts s (s.modLegSettled l g) := setLeg_counts s l _ h

theorem countLeg_quiet (l : Leg) (g : LegTotals → LegTotals)
    (h : Bounded (s.leg l).counters.values → Bounded (g (s.leg l).counters).values) :
    Quiet s (s.modLeg l (fun x => x.count g)) := by
  refine ⟨setLeg_counts s l _ h, by rw [State.modLeg_freeze], fun m => ?_⟩
  by_cases hm : m = l
  · subst hm; rw [State.modLeg, State.leg_setLeg_self]; rfl
  · rw [State.modLeg, State.leg_setLeg_ne s hm]

theorem setQueue_counters (x : Flow) (l : Leg) (q : List Nat) : (x.setQueue l q).counters = x.counters := by
  cases l <;> rfl

theorem setCredit_counters (x : Flow) (l : Leg) (n : Nat) : (x.setCredit l n).counters = x.counters := by
  cases l <;> rfl

/-- A flow's counters on one leg changed. -/
theorem countOn_bounded (x : Flow) (l : Leg) (g : LegCounts → LegCounts)
    (h : ∀ c, Bounded c.values → Bounded (g c).values) (hx : Bounded x.counters.values) :
    Bounded (x.countOn l g).counters.values := by
  rw [flowCounters_bounded_iff] at hx ⊢
  obtain ⟨⟨ha, hb⟩, hrest⟩ := hx
  cases l with
  | a => exact ⟨⟨h _ ha, hb⟩, hrest⟩
  | b => exact ⟨⟨ha, h _ hb⟩, hrest⟩

/-! ## Binder -/

theorem countLag_quiet (f : FlowId) (l : Leg) (d : Nat) : Quiet s (s.countLag f l d) :=
  (modFlow_quiet s f _ (countOn_bounded _ l _ fun c hc => by
    simp_all)).trans (countLeg_quiet _ l _ fun hc => by
      simp_all)

theorem lagQueue_quiet (f : FlowId) (l : Leg) : Quiet s (s.lagQueue f l) :=
  ((modFlow_quiet s f _ (by rw [setQueue_counters]; exact id)).trans (countLag_quiet _ f l _)).trans
    (releaseAll_quiet _ _)

theorem appendUnit_quiet (f : FlowId) (id : Nat) (l : Leg) : Quiet s (s.appendUnit f id l) := by
  have hq (q : List Nat) : Quiet s (s.modFlow f (fun x => x.setQueue l q)) :=
    modFlow_quiet s f _ fun h => by rwa [setQueue_counters]
  unfold State.appendUnit
  split
  · split
    · exact ((hq _).trans (countLag_quiet _ f l 1)).trans (release_quiet _ _)
    · exact hq _
  · exact hq _

theorem discardHead_quiet (f : FlowId) (id : Nat) (g : FlowCounters → FlowCounters)
    (h : ∀ c, Bounded c.values → Bounded (g c).values) : Quiet s (s.discardHead f id g) :=
  (modFlow_quiet s f _ (h _)).trans (release_quiet _ id)

theorem advance_counters (x : Flow) : x.advance.counters = x.counters := by
  unfold Flow.advance
  split <;> rfl

theorem bindHead_quiet (f : FlowId) (id due : Nat) : Quiet s (s.bindHead f id due) :=
  (((setStore_quiet s (s.store.bind id due _) (fun h => h) (fun h => h)).trans
    (modFlow_quiet _ f Flow.dropHead (fun h => h))).trans (foldl_quiet (fun t l => appendUnit_quiet t f id l) _ _)).trans
      (modFlow_quiet _ f _ (by rw [advance_counters]; exact fun h => h))

theorem countLate_quiet (f : FlowId) (l : Leg) : Quiet s (s.countLate f l) :=
  (modFlow_quiet s f _ (countOn_bounded _ l _ fun c hc => by
    simp_all)).trans (countLeg_quiet _ l _ fun hc => by
      simp_all)

theorem lateHead_quiet (f : FlowId) (id : Nat) : Quiet s (s.lateHead f id) :=
  (((modFlow_quiet s f Flow.dropHead fun h => h).trans
    (foldl_quiet (fun t l => countLate_quiet t f l) _ _)).trans
      (modFlow_quiet _ f _ (by rw [advance_counters]; exact fun h => h))).trans (release_quiet _ id)

theorem placeHead_quiet (f : FlowId) (id now : Nat) : Quiet s (s.placeHead f id now) := by
  unfold State.placeHead
  split
  · exact Quiet.refl s
  · simp only
    split
    · exact lateHead_quiet s f id
    · exact bindHead_quiet s f id _

theorem lockFlow_quiet (f : FlowId) (now : Nat) : Quiet s (s.lockFlow f now) :=
  (modFlow_quiet s f _ fun h => h).trans (emit_quiet _ _)

theorem relockFlow_quiet (f : FlowId) (now : Nat) (p : Position) : Quiet s (s.relockFlow f now p) :=
  ((modFlow_quiet s f _ fun h => by simp_all).trans
    (foldl_quiet (fun t l => lagQueue_quiet t f l) _ _)).trans (emit_quiet _ _)

theorem frameHead_quiet (f : FlowId) (id now : Nat) : Quiet s (s.frameHead f id now) := by
  unfold State.frameHead
  split
  · exact Quiet.refl s
  · split
    · exact (relockFlow_quiet s f now _).trans (placeHead_quiet _ f id now)
    · exact placeHead_quiet s f id now

theorem rasterHead_quiet (f : FlowId) (id : Nat) (fs : Bool) (now : Nat) :
    Quiet s (s.rasterHead f id fs now) := by
  have hshort (p : Position) : Quiet s (s.shortFrame f p) :=
    modFlow_quiet s f _ fun h => by simp_all [Flow.moveTo, Flow.count]
  unfold State.rasterHead
  split
  · exact Quiet.refl s
  · split_ifs
    · exact (hshort _).trans (frameHead_quiet _ f id now)
    · exact frameHead_quiet s f id now
    · exact discardHead_quiet s f id _ fun c hc => by simp_all
    · exact placeHead_quiet s f id now

theorem essenceHead_quiet (f : FlowId) (id now : Nat) : Quiet s (s.essenceHead f id now) := by
  unfold State.essenceHead
  split
  · exact Quiet.refl s
  · split
    · exact (relockFlow_quiet s f now _).trans (placeHead_quiet _ f id now)
    · exact placeHead_quiet s f id now

theorem lockedHead_quiet (f : FlowId) (id : Nat) (fs : Bool) (now : Nat) :
    Quiet s (s.lockedHead f id fs now) := by
  unfold State.lockedHead
  split
  · exact essenceHead_quiet s f id now
  · exact rasterHead_quiet s f id fs now

theorem examineHead_quiet (f : FlowId) (id : Nat) (fs : Bool) (now : Nat) :
    Quiet s (s.examineHead f id fs now) := by
  unfold State.examineHead
  split
  · unfold State.unlockedHead
    split
    · exact (lockFlow_quiet s f now).trans (lockedHead_quiet _ f id fs now)
    · exact discardHead_quiet s f id _ fun c hc => by simp_all
  · exact lockedHead_quiet s f id fs now

/-! ## Release Calendar -/

theorem stepFlow_quiet (f : FlowId) : Quiet s (s.stepFlow f) := by
  refine (modFlow_quiet s f _ fun h => ?_).trans (releaseAll_quiet _ _)
  unfold Flow.stepped
  split
  · exact h
  · simp_all [Flow.count, Flow.noCredit]

theorem timeStep_quiet (x : Nat) (code : TimeCode) : Quiet s (s.timeStep x code) :=
  ((setTime_quiet s _).trans (foldl_quiet stepFlow_quiet _ _)).trans (emit_quiet _ _)

theorem credited_counters (x : Flow) (lo hi : Nat) : (x.credited lo hi).counters = x.counters := by
  unfold Flow.credited
  split
  · rfl
  · split
    · exact StationTime.foldl_keeps Flow.counters (fun y l => setCredit_counters y l _) _ x
    · rfl

theorem moveCursor_quiet (c x : Nat) : Quiet s (s.moveCursor c x) :=
  (foldl_quiet (fun t f => modFlow_quiet t f (fun y => y.credited c (slotOf x))
    (by rw [credited_counters]; exact id)) _ s).trans (setTime_quiet _ _)

theorem validReading_quiet (x : Nat) : Quiet s (s.validReading x) := by
  unfold State.validReading
  split
  · split
    · exact timeStep_quiet s x _
    · unfold State.judgeReading
      split_ifs
      · exact timeStep_quiet s x _
      · exact setTime_quiet s _
      · exact timeStep_quiet s x _
      · exact setTime_quiet s _
      · exact moveCursor_quiet s _ x
  · exact setTime_quiet s _

theorem invalidReading_quiet : Quiet s s.invalidReading := by
  unfold State.invalidReading
  split
  · exact (setTime_quiet s _).trans (emit_quiet _ _)
  · exact Quiet.refl s

theorem signalled_counters (x : EgressLeg) : x.signalled.counters = x.counters := by
  unfold EgressLeg.signalled
  split
  · split <;> rfl
  · rfl

theorem leg_clockTick (l : Leg) : s.clockTick.leg l = (s.leg l).signalled := by
  cases l <;> rfl

theorem clockTick_counts : Counts s s.clockTick :=
  ⟨fun _ => id, fun l => by rw [leg_clockTick, signalled_counters]; exact id, id, id⟩

/-! ## Serving -/

theorem dropOldest_counters (x : Flow) (l : Leg) : (x.dropOldest l).counters = x.counters := setQueue_counters x l _

theorem takeOldest_counters (x : Flow) (l : Leg) : (x.takeOldest l).counters = x.counters := by
  rw [Flow.takeOldest, setCredit_counters, dropOldest_counters]

theorem lateAtOffer_counts (l : Leg) (e : Entry) : Counts s (s.lateAtOffer l e) :=
  (((modFlow_quiet s _ _ (by rw [dropOldest_counters]; exact fun h => h)).trans (countLate_quiet _ _ l)).trans
    (release_quiet _ _)).toCounts.trans (modLegSettled_counts _ l _ fun h => h)

theorem offerUnit_counts (l : Leg) (e : Entry) : Counts s (s.offerUnit l e) :=
  (modFlow_quiet s _ _ (by rw [takeOldest_counters]; exact fun h => h)).toCounts.trans
    (modLegSettled_counts _ l _ fun h => h)

theorem sinkUnit_counts (l : Leg) (e : Entry) : Counts s (s.sinkUnit l e) := by
  refine ((modFlow_quiet s _ _ fun h => ?_).trans (release_quiet _ _)).toCounts.trans
    (modLegSettled_counts _ l _ fun h => ?_)
  · refine countOn_bounded _ l _ (fun c hc => ?_) (by rwa [takeOldest_counters])
    simp_all
  · simp_all [EgressLeg.count]

theorem serve_counts (l : Leg) (e : Entry) (now : Nat) : Counts s (s.serve l e now) := by
  unfold State.serve
  split
  · exact lateAtOffer_counts s l e
  · split
    · exact offerUnit_counts s l e
    · exact sinkUnit_counts s l e
    · exact sinkUnit_counts s l e
    · exact Counts.refl s

/-! ## Drains and intake -/

theorem flushFlow_quiet (f : FlowId) : Quiet s (s.flushFlow f) :=
  (modFlow_quiet s f _ fun h => by simp_all [Flow.count]).trans (releaseAll_quiet _ _)

theorem startDrain_quiet (f : FlowId) : Quiet s (s.startDrain f) :=
  (modFlow_quiet s f _ fun h => by simp_all [Flow.count]).trans (releaseAll_quiet _ _)

theorem breakRun_quiet (f : FlowId) : Quiet s (s.breakRun f) := by
  unfold State.breakRun
  split
  · exact (modFlow_quiet s f _ fun h => by simp_all [Flow.count]).trans
      (release_quiet _ _)
  · exact modFlow_quiet s f _ fun h => h
  · exact Quiet.refl s

theorem startUnit_quiet (f : FlowId) (p : Packet) (g : Flow → Nat → Flow)
    (h : ∀ x id, (g x id).counters = x.counters) : Quiet s (s.startUnit f p g) :=
  (setStore_quiet s (s.store.start f p.frameStart p.bytes) (fun h => h) (fun h => h)).trans
    (modFlow_quiet _ f (fun x => g x _) (by rw [h]; exact id))

theorem overIntake_bounded (x : Flow) (h : Bounded x.counters.values) : Bounded x.overIntake.counters.values := by
  simp_all [Flow.overIntake, Flow.count]

theorem openRun_quiet (f : FlowId) (p : Packet) (closes : Bool) : Quiet s (s.openRun f p closes) := by
  unfold State.openRun
  split
  · exact startUnit_quiet s f p _ fun _ _ => by cases closes <;> rfl
  · exact modFlow_quiet s f _ (overIntake_bounded _)

theorem join_counters (st : Store) (id : Nat) (bytes : List Byte) :
    (st.join id bytes).stray = st.stray ∧ (st.join id bytes).badLength = st.badLength := by
  unfold Store.join
  split <;> exact ⟨rfl, rfl⟩

theorem joinRun_quiet (f : FlowId) (p : Packet) (closes : Bool) (id : Nat) :
    Quiet s (s.joinRun f p closes id) := by
  obtain ⟨hstray, hbad⟩ := join_counters s.store id p.bytes
  have hjoin : Quiet s { s with store := s.store.join id p.bytes } := setStore_quiet s _ hstray.le.trans hbad.le.trans
  unfold State.joinRun
  simp only
  split
  · split
    · exact hjoin.trans (modFlow_quiet _ f _ fun h => h)
    · exact hjoin
  · exact breakRun_quiet s f

theorem acceptPacket_quiet (f : FlowId) (p : Packet) : Quiet s (s.acceptPacket f p) := by
  unfold State.acceptPacket
  simp only
  split
  · exact (breakRun_quiet s f).trans (openRun_quiet _ f p _)
  · split
    · unfold State.singleUnit
      split
      · exact startUnit_quiet s f p _ fun _ _ => rfl
      · exact modFlow_quiet s f _ (overIntake_bounded _)
    · exact joinRun_quiet s f p _ _
    · exact modFlow_quiet s f _ (overIntake_bounded _)

theorem judgePacket_quiet (flow : Byte) (p : Packet) : Quiet s (s.judgePacket flow p) := by
  have hstray : Quiet s s.strayPacket := setStore_quiet s _ (fun _ => bump_bounded _) id
  unfold State.judgePacket
  split
  · exact setStore_quiet s _ id (fun _ => bump_bounded _)
  · split
    · exact hstray
    · split_ifs
      · exact hstray
      · refine (breakRun_quiet s _).trans (modFlow_quiet _ _ _ fun h => ?_)
        simp_all [Flow.count]
      · exact acceptPacket_quiet s _ p

/-! ## Legs -/

theorem countFor_quiet (h : Hand) (u : Bundle) (l : Leg) (g : LegCounts → LegCounts)
    (hg : ∀ c, Bounded c.values → Bounded (g c).values) : Quiet s (s.countFor h u l g) := by
  unfold State.countFor
  split
  · exact Quiet.refl s
  · exact modFlow_quiet s _ _ (countOn_bounded _ l g hg)

theorem finishUnit_counts (l : Leg) (id : Nat) : Counts s (s.finishUnit l id) :=
  (release_quiet s id).toCounts.trans (modLegSettled_counts _ l _ fun h => h)

theorem endUnit_counts (l : Leg) (h : Hand) (u : Bundle) : Counts s (s.endUnit l h u) :=
  ((countFor_quiet s h u l _ fun c hc => by simp_all).trans
    (countLeg_quiet _ l _ fun hc => by simp_all)).toCounts.trans (finishUnit_counts _ l _)

theorem takePacket_counts (l : Leg) (h : Hand) (u : Bundle) : Counts s (s.takePacket l h u) := by
  have htaken : Quiet s (s.modLeg l (fun x => x.count (fun c => { c with packetsTaken := bump c.packetsTaken }))) :=
    countLeg_quiet s l _ fun hc => by simp_all
  unfold State.takePacket
  simp only
  split
  · exact htaken.toCounts.trans (modLeg_counts _ l _ rfl)
  · exact ((htaken.trans (countFor_quiet _ h u l _ fun c hc => by simp_all)).trans
      (countLeg_quiet _ l _ fun hc => by simp_all)).toCounts.trans
        (finishUnit_counts _ l _)

theorem retryPacket_counts (l : Leg) (h : Hand) (u : Bundle) : Counts s (s.retryPacket l h u) := by
  have hcount := (countFor_quiet s h u l (fun c => { c with retries := bump c.retries }) fun c hc => by
    simp_all).trans (countLeg_quiet _ l (fun c => { c with retries := bump c.retries })
      fun hc => by simp_all)
  unfold State.retryPacket
  simp only
  split
  · exact hcount.toCounts.trans (modLeg_counts _ l _ rfl)
  · exact hcount.toCounts.trans (endUnit_counts _ l h u)

theorem answer_counts (l : Leg) (act : Hand → Bundle → State) (h : ∀ h u, Counts s (act h u)) :
    Counts s (s.answer l act) := by
  have hstray : Quiet s (s.strayAnswer l) := countLeg_quiet s l _ fun hc => by
    simp_all
  unfold State.answer
  split
  · exact hstray.toCounts
  · split
    · exact hstray.toCounts
    · split
      · exact h _ _
      · exact Counts.refl s

theorem permitFalls_counts (l : Leg) : Counts s (s.permitFalls l) := by
  unfold State.permitFalls
  split
  · exact (modLegSettled_counts s l _ fun h => h).trans (emit_quiet _ _).toCounts
  · exact modLeg_counts s l _ rfl

theorem permitRises_counts (l : Leg) : Counts s (s.permitRises l) := by
  unfold State.permitRises
  split
  · exact (modLegSettled_counts s l _ fun h => h).trans (emit_quiet _ _).toCounts
  · exact (modLegSettled_counts s l _ fun h => h).trans (emit_quiet _ _).toCounts
  · exact modLeg_counts s l _ rfl

theorem setFreeze_counts (level : Bool) : Counts s (s.setFreeze level) := by
  refine ⟨fun _ => id, fun l => ?_, id, id⟩
  cases l with
  | a => exact id
  | b =>
    change Bounded s.legB.counters.values →
      Bounded (if s.straps.legb then s.legB.settle level else s.legB).counters.values
    split <;> exact id

theorem legOut_counts (l : Leg) : Counts s (s.legOut l) := by
  refine Counts.trans ?_ (emit_quiet _ _).toCounts
  split
  · exact Counts.refl s
  · exact modLegSettled_counts s l _ fun h => h

theorem legIn_counts (l : Leg) : Counts s (s.legIn l) := by
  refine Counts.trans ?_ (emit_quiet _ _).toCounts
  split
  · exact modLegSettled_counts s l _ fun h => by split <;> exact h
  · exact Counts.refl s


/-! ## The acts -/

section
variable {s t : State} {c : Instr}

theorem DataAct.counts (h : DataAct s c t) : Counts s t := by
  cases h with
  | idle => exact Counts.refl s
  | port c p => exact (setPort_quiet s p).toCounts
  | latch => exact (setTime_quiet s _).toCounts
  | packet => exact (judgePacket_quiet s _ _).toCounts
  | startDrain c f => exact (startDrain_quiet s f).toCounts
  | flush c f clock => exact ((setClock_quiet s clock).trans (flushFlow_quiet _ f)).toCounts
  | validReading c x => exact (clockTick_counts s).trans (validReading_quiet _ x).toCounts
  | invalidReading => exact (clockTick_counts s).trans (invalidReading_quiet _).toCounts
  | examine => exact (examineHead_quiet s _ _ _ _).toCounts
  | serve => exact serve_counts s _ _ _
  | take l => exact answer_counts s l _ fun h u => takePacket_counts s l h u
  | retry l => exact answer_counts s l _ fun h u => retryPacket_counts s l h u
  | fault l => exact answer_counts s l _ fun h u => endUnit_counts s l h u
  | reoffer c l => exact modLeg_counts s l _ rfl
  | permitFalls c l => exact permitFalls_counts s l
  | permitRises c l => exact permitRises_counts s l
  | stallRanOut c l d =>
    exact ((setClock_quiet s _).toCounts.trans (modLegSettled_counts _ l _ fun h => h)).trans (emit_quiet _ _).toCounts
  | setFreeze c level => exact setFreeze_counts s level
  | legOut c l => exact legOut_counts s l
  | legIn c l => exact legIn_counts s l

theorem AdmStep.counts (h : AdmStep s t) : Counts s t where
  flows f hb := by
    obtain e | e := (h.flows f).counters <;> rw [e]
    · exact hb
    · exact bounded_zero
  legs l hb := by
    obtain e | ⟨hand, -, e⟩ := h.legs l <;> rw [e] <;> exact hb
  stray hb := by rwa [h.store]
  badLength hb := by rwa [h.store]

end

/-! ## The peer line: operations that count nothing on it -/

/-- The line's counters, its counts of bit times and the receiver stay. -/
structure Calm (s t : State) : Prop where
  counters : t.line.counters = s.line.counters
  bits : t.line.bits = s.line.bits
  receiver : t.line.receiver = s.line.receiver

theorem Calm.refl (s : State) : Calm s s := ⟨rfl, rfl, rfl⟩

theorem Calm.trans {s t u : State} (h : Calm s t) (k : Calm t u) : Calm s u :=
  ⟨k.counters.trans h.counters, k.bits.trans h.bits, k.receiver.trans h.receiver⟩

/-- A change of nothing on the line. -/
theorem Calm.of_line {s t : State} (h : t.line = s.line) : Calm s t := by
  constructor <;> rw [h]

theorem emit_calm (o : Outcome) : Calm s (s.emit o) := Calm.of_line rfl

theorem setAdm_calm (x : Admission) : Calm s { s with adm := x } := Calm.of_line rfl

theorem reach_calm (d : Nat) : Calm s (s.reach d) := Calm.of_line rfl

theorem noClaim_calm : Calm s s.noClaim := Calm.of_line rfl

theorem modFlow_calm (f : FlowId) (g : Flow → Flow) : Calm s (s.modFlow f g) := Calm.of_line rfl

theorem modSendList_calm (g : List SendEntry → List SendEntry) : Calm s (s.modSendList g) := ⟨rfl, rfl, rfl⟩

theorem placeLoadIfSpeaking_calm : Calm s s.placeLoadIfSpeaking := by
  unfold State.placeLoadIfSpeaking
  split
  · exact modSendList_calm s _
  · exact Calm.refl s

theorem syncLoad_calm : Calm s s.syncLoad := by
  unfold State.syncLoad
  split
  · exact modSendList_calm s _
  · exact Calm.refl s

theorem queueYield_calm (legs : Legs) (n : Nat) : Calm s (s.queueYield legs n) := by
  unfold State.queueYield
  split
  · exact modSendList_calm s _
  · exact Calm.refl s

theorem detach_line (f : FlowId) (l : Leg) : (s.detach f l).line = s.line := by
  unfold State.detach
  split
  · split
    · exact s.modLeg_line l _
    · rfl
  · rfl

theorem flowToFree_calm (f : FlowId) (reason : ClosedReason) : Calm s (s.flowToFree f reason) := by
  refine Calm.trans (Calm.of_line ?_)
    (((setAdm_calm _ _).trans (queueYield_calm _ _ _)).trans ((syncLoad_calm _).trans (emit_calm _ _)))
  exact (detach_line _ f .b).trans (detach_line _ f .a)

theorem withdrawFlow_calm (f : FlowId) : Calm s (s.withdrawFlow f) := Calm.of_line rfl

theorem refuseFlow_calm (code : RefusedCode) (f : FlowId) : Calm s (s.refuseFlow code f) := Calm.of_line rfl

theorem admitFlow_calm (f : FlowId) : Calm s (s.admitFlow f) :=
  (((setAdm_calm s _).trans (modFlow_calm _ f (fun x => { x with state := .armed }))).trans (syncLoad_calm _)).trans
    (emit_calm _ _)

theorem place_calm : Calm s s.place := by
  unfold State.place
  split
  · split
    · exact ⟨rfl, rfl, rfl⟩
    · exact Calm.refl s
  · exact Calm.refl s

theorem withdrawClaim_calm : Calm s s.withdrawClaim := by
  constructor <;> (simp only [State.withdrawClaim, Line.withdrawClaim]; split <;> rfl)

theorem claimCompleted_calm : Calm s s.claimCompleted := by
  unfold State.claimCompleted
  split
  · exact Calm.refl s
  · simp only
    split
    · refine Calm.trans ?_ (place_calm _)
      split
      · exact ((noClaim_calm s).trans (queueYield_calm _ _ _)).trans (withdrawFlow_calm _ _)
      · exact Calm.of_line rfl
    · split
      · exact ((noClaim_calm s).trans (admitFlow_calm _ _)).trans (place_calm _)
      · exact ((noClaim_calm s).trans (refuseFlow_calm _ _ _)).trans (place_calm _)

theorem withdrawn_calm (f : FlowId) : Calm s (s.withdrawClaim.noClaim.withdrawFlow f).place :=
  ((withdrawClaim_calm s).trans (noClaim_calm _)).trans ((withdrawFlow_calm _ f).trans (place_calm _))

theorem claimLeftWire_calm : Calm s s.claimLeftWire := by
  unfold State.claimLeftWire
  split
  · exact Calm.refl s
  · split
    · exact withdrawn_calm s _
    · exact Calm.refl s

theorem claimTimedOut_calm (f : FlowId) : Calm s (s.claimTimedOut f) := by
  unfold State.claimTimedOut
  simp only
  split
  · exact withdrawn_calm s f
  · exact ((withdrawClaim_calm s).trans (noClaim_calm _)).trans ((refuseFlow_calm _ _ f).trans (place_calm _))

theorem withdrawUndecided_calm (f : FlowId) : Calm s (s.withdrawUndecided f) := by
  unfold State.withdrawUndecided
  split_ifs
  · exact Calm.of_line rfl
  · exact Calm.of_line rfl
  · exact withdrawn_calm s f

theorem handOver_calm (f : FlowId) : Calm s (s.handOver f) := by
  unfold State.handOver
  split
  · split
    · exact admitFlow_calm s f
    · exact refuseFlow_calm s _ f
  · exact (setAdm_calm s _).trans (place_calm _)
  · exact Calm.of_line rfl
  · exact refuseFlow_calm s _ f
  · exact refuseFlow_calm s _ f

theorem refuseUndecided_line (code : RefusedCode) : (s.refuseUndecided code).line = s.line := by
  have hfold (fs : List FlowId) (t : State) : (fs.foldl (fun t f => t.refuseFlow code f) t).line = t.line :=
    StationTime.foldl_keeps State.line (turn := fun t f => t.refuseFlow code f) (fun _ _ => rfl) fs t
  simp only [State.refuseUndecided, hfold]
  split
  · split <;> rfl
  · rfl

theorem detectDuplicate_calm : Calm s s.detectDuplicate := by
  unfold State.detectDuplicate
  split
  · constructor <;> rw [State.enterDuplicate, refuseUndecided_line] <;> rfl
  · exact Calm.refl s

theorem applyNotice_line (i : StationId) (n : Notice) : (s.applyNotice i n).line = s.line := by
  have hhear : (s.hearPeer i).line = s.line := by
    unfold State.hearPeer
    split <;> rfl
  rw [← hhear]
  unfold State.applyNotice State.applyContent
  simp only
  split
  · rfl
  · split <;> rfl
  · rfl

theorem agePeers_line : s.agePeers.line = s.line := by
  have hage (t : State) (i : StationId) : (t.agePeer i).line = t.line := by
    unfold State.agePeer
    simp only
    split_ifs <;> rfl
  unfold State.agePeers
  split
  · exact StationTime.foldl_keeps State.line hage _ s
  · rfl

theorem handOn_calm (i : StationId) (n : Notice) : Calm s (s.handOn i n) := by
  unfold State.handOn
  split
  · exact detectDuplicate_calm s
  · exact Calm.of_line (applyNotice_line s i n)

/-! ## The peer line: the receiver -/

/-- The line's counters stay within their bound, and the counts of bit times stay. -/
structure Received (s t : State) : Prop where
  counters : Bounded s.line.counters.values → Bounded t.line.counters.values
  bits : t.line.bits = s.line.bits

theorem Received.refl (s : State) : Received s s := ⟨id, rfl⟩

theorem Received.trans {s t u : State} (h : Received s t) (k : Received t u) : Received s u :=
  ⟨k.counters ∘ h.counters, k.bits.trans h.bits⟩

theorem Calm.received {s t : State} (h : Calm s t) : Received s t := ⟨by rw [h.counters]; exact id, h.bits⟩

theorem setReceiver_received (r : Receiver) : Received s (s.setReceiver r) := ⟨id, rfl⟩

theorem formatError_received : Received s s.formatError := by
  refine ⟨fun h => ?_, rfl⟩
  simp_all [State.formatError, State.modLine, Line.count]

theorem judgeNotice_received (cs : List Byte) : Received s (s.judgeNotice cs) := by
  unfold State.judgeNotice
  split
  · refine ⟨fun h => ?_, rfl⟩
    simp_all [State.modLine, Line.count]
  · split
    · split
      · exact (handOn_calm s _ _).received
      · exact formatError_received s
    · exact formatError_received s

theorem takeHeader_received (value : Byte) : Received s (s.takeHeader value) := by
  unfold State.takeHeader
  split
  · exact setReceiver_received s _
  · exact (setReceiver_received s _).trans (formatError_received _)

theorem addCharacter_received (cs : List Byte) (value : Byte) : Received s (s.addCharacter cs value) := by
  unfold State.addCharacter
  simp only
  split
  · split_ifs
    · exact setReceiver_received s _
    · exact setReceiver_received s _
    · exact (setReceiver_received s _).trans (judgeNotice_received _ _)
  · exact setReceiver_received s _

theorem atStopBit_counted : (atStopBit s).line.counters = s.line.counters ∧ (atStopBit s).line.bits = ⟨0, 0⟩ := by
  unfold atStopBit
  simp only
  split
  · exact ⟨(detectDuplicate_calm _).counters, (detectDuplicate_calm _).bits⟩
  · exact ⟨rfl, rfl⟩

/-- A character changes nothing, or it leaves the counters within their bound and begins the counts of bit times
anew. -/
theorem takeCharacter_counted (value : Byte) (mark : Bool) :
    s.takeCharacter value mark = s ∨
      ((Bounded s.line.counters.values → Bounded (s.takeCharacter value mark).line.counters.values) ∧
        (s.takeCharacter value mark).line.bits = ⟨0, 0⟩) := by
  obtain ⟨hcounters, hbits⟩ := atStopBit_counted s
  have hthen {t : State} (h : Received (atStopBit s) t) :
      (Bounded s.line.counters.values → Bounded t.line.counters.values) ∧ t.line.bits = ⟨0, 0⟩ :=
    ⟨fun hb => h.counters (by rwa [hcounters]), h.bits.trans hbits⟩
  obtain e | e | ⟨cs, -, e⟩ | e | e := takeCharacter_cases s value mark
  · exact .inl e
  · exact .inr (e ▸ hthen (Received.refl _))
  · exact .inr (e ▸ hthen (addCharacter_received _ cs value))
  · exact .inr (e ▸ hthen
      (((setReceiver_received _ _).trans (formatError_received _)).trans (takeHeader_received _ value)))
  · exact .inr (e ▸ hthen (takeHeader_received _ value))

theorem wireFree_received : Received s s.wireFree ∧ s.wireFree.line.receiver ≠ .waitFree := by
  unfold State.wireFree
  split
  · exact ⟨setReceiver_received s _, by simp [State.setReceiver, State.modLine]⟩
  next h => exact ⟨Received.refl s, by simp [h]⟩
  · exact ⟨(setReceiver_received s _).trans (formatError_received _),
      by simp [State.formatError, Line.count, State.setReceiver, State.modLine]⟩

theorem hearBreak_counted : (Bounded s.line.counters.values → Bounded s.hearBreak.line.counters.values) ∧
    s.hearBreak.line.bits = ⟨0, 12⟩ := by
  have hleave (t : State) : Calm t (t.modLine Line.leaveWire) := ⟨rfl, rfl, rfl⟩
  have hcalm : Calm (breakNoted s) s.hearBreak := by
    rw [hearBreak_eq]
    refine Calm.trans ?_ (placeLoadIfSpeaking_calm _)
    split
    · split
      · exact (hleave _).trans (claimLeftWire_calm _)
      · exact hleave _
    · exact Calm.refl _
  refine ⟨fun hb => ?_, hcalm.bits⟩
  rw [hcalm.counters]
  simp_all [breakNoted, State.modLine, Line.count]

/-! ## The acts on the peer line -/

theorem afterReset_bounded (straps : Straps) (a b z : Bool) :
    (State.afterReset straps a b z s.pending).CountersBounded := by
  refine ⟨fun f => ?_, fun l => ?_, ?_, Nat.zero_le _, Nat.zero_le _⟩
  · have hflow : (State.afterReset straps a b z s.pending).flow f = Flow.afterReset := by
      simp [State.flow, State.afterReset]
    rw [hflow]
    exact bounded_zero
  · have hleg : ((State.afterReset straps a b z s.pending).leg l).counters = .zero := by
      cases l with
      | a => rfl
      | b => simp only [State.leg, State.afterReset]; split <;> rfl
    rw [hleg]
    unfold LegTotals.zero
    decide
  · change Bounded LineCounters.zero.values
    unfold Bounded
    decide

theorem afterReset_bits (straps : Straps) (a b z : Bool) :
    (State.afterReset straps a b z s.pending).BitCountsSound :=
  ⟨.inl rfl, Nat.zero_le _, Nat.zero_le _, fun _ => rfl⟩

section
variable {s t : State} {c : Instr}

theorem AdmAct.line_bounded (h : AdmAct s t) (hb : Bounded s.line.counters.values) :
    Bounded t.line.counters.values := by
  cases h with
  | declare f d p => rwa [(handOver_calm _ f).counters]
  | withdraw f => rwa [(withdrawUndecided_calm s f).counters]
  | claimTimeout f d => rwa [(claimTimedOut_calm _ f).counters]
  | clock => exact hb
  | character value mark =>
    obtain e | ⟨h, -⟩ := takeCharacter_counted s value mark
    · rwa [e]
    · exact h hb
  | framingError => simp_all [State.modLine, Line.count]
  | wireFree => exact (wireFree_received s).1.counters hb
  | noticeStart => exact (wireFree_received s).1.counters hb
  | loss n =>
    have hlost : Bounded (s.modLine (fun x =>
        { (x.leaveWire).count (fun c => { c with losses := bump c.losses }) with
          bodyLoss := !(match s.line.receiver with
            | .inNotice _ => false
            | _ => true) })).line.counters.values := by
      simp_all [State.modLine, Line.count, Line.leaveWire]
    unfold State.loseArbitration
    simp only
    split
    · rw [(claimLeftWire_calm _).counters]
      exact hlost
    · exact hlost
  | complete n =>
    unfold State.completeNotice
    simp only
    split
    · rw [(claimCompleted_calm _).counters]
      simp_all [State.modLine, Line.count]
    · simp_all [State.modLine, Line.count]
  | breakStart => exact (wireFree_received s).1.counters hb
  | breakHeard => exact (hearBreak_counted s).1 hb
  | breakComplete => exact hb
  | breakHeld => exact (hearBreak_counted s).1 hb
  | stuck =>
    have hstuck : Bounded (atStuckWire s).line.counters.values := by
      unfold atStuckWire
      split
      · exact (hearBreak_counted s).1 hb
      · exact hb
    rw [stuck_eq]
    split
    · rw [State.enterIsolated, refuseUndecided_line]
      exact hstuck
    · exact hstuck
  | restored => exact hb
  | listened d => rwa [State.enterActive, (place_calm _).counters]
  | refresh => rwa [(placeLoadIfSpeaking_calm _).counters, agePeers_line]

/-- Counts of bit times in a state that has them as `r` recessive and `d` dominant ones. -/
theorem bitCountsSound_of {r d : Nat} (h : t.line.bits = ⟨r, d⟩) (hone : r = 0 ∨ d = 0) (hr : r ≤ 12) (hd : d ≤ 64)
    (hwait : t.line.receiver = .waitFree → r = 0) : t.BitCountsSound := by
  constructor <;> rw [h]
  · exact hone
  · exact hr
  · exact hd
  · exact hwait

theorem bitCountsSound_of_dominant {d : Nat} (h : t.line.bits = ⟨0, d⟩) (hd : d ≤ 64) : t.BitCountsSound :=
  bitCountsSound_of h (.inl rfl) (Nat.zero_le _) hd fun _ => rfl

theorem bitCountsSound_of_calm (hb : s.BitCountsSound) (hbits : t.line.bits = s.line.bits)
    (hreceiver : t.line.receiver = s.line.receiver) : t.BitCountsSound := by
  obtain ⟨h1, h2, h3, h4⟩ := hb
  exact ⟨hbits ▸ h1, hbits ▸ h2, hbits ▸ h3, hbits ▸ hreceiver ▸ h4⟩

theorem Calm.bitCountsSound (h : Calm s t) (hb : s.BitCountsSound) : t.BitCountsSound :=
  bitCountsSound_of_calm hb h.bits h.receiver

theorem AdmAct.bits_sound (h : AdmAct s t) (hb : s.BitCountsSound) : t.BitCountsSound := by
  cases h with
  | declare f d p => exact ((modFlow_calm s f (fun x => x.declared p)).trans (handOver_calm _ f)).bitCountsSound hb
  | withdraw f => exact (withdrawUndecided_calm s f).bitCountsSound hb
  | claimTimeout f d => exact ((reach_calm s d).trans (claimTimedOut_calm _ f)).bitCountsSound hb
  | clock d => exact (reach_calm s d).bitCountsSound hb
  | character value mark =>
    obtain e | ⟨-, hbits⟩ := takeCharacter_counted s value mark
    · rwa [e]
    · exact bitCountsSound_of_dominant hbits (by decide)
  | framingError => exact bitCountsSound_of_dominant rfl (by decide)
  | wireFree =>
    exact bitCountsSound_of (r := 12) (d := 0) rfl (.inr rfl) le_rfl (by decide)
      fun h => absurd h (wireFree_received s).2
  | noticeStart => exact bitCountsSound_of_dominant rfl (by decide)
  | loss n =>
    unfold State.loseArbitration
    simp only
    split
    · exact bitCountsSound_of_calm hb (claimLeftWire_calm _).bits (claimLeftWire_calm _).receiver
    · exact bitCountsSound_of_calm hb rfl rfl
  | complete n =>
    unfold State.completeNotice
    simp only
    split
    · exact bitCountsSound_of_dominant (d := 0) (claimCompleted_calm _).bits (by decide)
    · exact bitCountsSound_of_dominant (d := 0) rfl (by decide)
  | breakStart => exact bitCountsSound_of_dominant rfl (by decide)
  | breakHeard => exact bitCountsSound_of_dominant (hearBreak_counted s).2 (by decide)
  | breakComplete => exact bitCountsSound_of_dominant rfl (by decide)
  | breakHeld => exact bitCountsSound_of_dominant rfl (by decide)
  | stuck =>
    rw [stuck_eq]
    split
    · refine bitCountsSound_of_dominant (d := 64) ?_ le_rfl
      rw [State.enterIsolated, refuseUndecided_line]
      rfl
    · exact bitCountsSound_of_dominant (d := 64) rfl le_rfl
  | restored =>
    exact bitCountsSound_of (r := 12) (d := 0) rfl (.inr rfl) le_rfl (by decide) fun h => nomatch h
  | listened d => exact (Calm.trans (Calm.of_line rfl : Calm s (((s.reach d).setStation .active).emit _))
      (place_calm _)).bitCountsSound hb
  | refresh =>
    have hage : Calm s s.restartRefresh.agePeers := Calm.of_line (agePeers_line _)
    exact (hage.trans (placeLoadIfSpeaking_calm _)).bitCountsSound hb

theorem Counts.bounded (h : Counts s t) (hline : Bounded s.line.counters.values → Bounded t.line.counters.values)
    (hb : s.CountersBounded) : t.CountersBounded := by
  obtain ⟨hflows, hlegs, hcounters, hstray, hbad⟩ := hb
  exact ⟨fun f => h.flows f (hflows f), fun l => h.legs l (hlegs l), hline hcounters, h.stray hstray,
    h.badLength hbad⟩

theorem Act.counters_bounded (h : Act s c t) (hb : s.CountersBounded) : t.CountersBounded := by
  cases h with
  | hold => exact hb
  | reset straps a b z => exact afterReset_bounded s straps a b z
  | data h => exact (DataAct.counts h).bounded (by rw [h.step.line]; exact id) hb
  | adm h => exact (AdmStep.counts h.step).bounded (AdmAct.line_bounded h) hb
  | ended f reason h =>
    exact ((DataAct.counts h).trans (AdmStep.counts (flowToFree_adm _ f reason))).bounded
      (by rw [(flowToFree_calm _ f reason).counters, h.step.line]; exact id) hb

theorem Act.bit_counts_sound (h : Act s c t) (hb : s.BitCountsSound) : t.BitCountsSound := by
  cases h with
  | hold => exact bitCountsSound_of_calm hb rfl rfl
  | reset straps a b z => exact afterReset_bits s straps a b z
  | data h => exact (Calm.of_line h.step.line).bitCountsSound hb
  | adm h => exact AdmAct.bits_sound h hb
  | ended f reason h =>
    exact ((Calm.of_line h.step.line).trans (flowToFree_calm _ f reason)).bitCountsSound hb

end

/-- Settles O58: every raise of a counter ends at its bound, and every event of the line sets the counts of bit times
to values within theirs. -/
theorem everyStepKeepsTheCounters : Obligations.EveryStepKeepsTheCounters := by
  refine ⟨raise_eq_ite, fun c => raise_eq_ite c 1, fun s t hstep => ?_⟩
  obtain rfl | ⟨c, rest, h⟩ := act_of_step hstep
  · exact ⟨id, id⟩
  · refine ⟨fun hb => Act.counters_bounded h hb, fun hb => Act.bit_counts_sound h ?_⟩
    exact bitCountsSound_of_calm hb rfl rfl

end Sys2Proof.Proofs.Counters
end

section
/-! The requests of the legs (R98), and the part while full reset is held (R168). -/

namespace Sys2Proof.Proofs.Requests

open Sys2Proof Sys2Proof.Machine Sys2Proof.Proofs.Frames Sys2Proof.Proofs.Acts Sys2Proof.Proofs.Counters

/-! ## A settled leg -/

/-- The request is open exactly while the leg is IDLE and may serve (R98). -/
def Settled (x : EgressLeg) (freeze : Bool) : Prop :=
  x.request = (x.hand.isNone && (x.service != .stalled) && !freeze)

theorem requestsSettled_iff (s : State) :
    s.RequestsSettled ↔ ∀ l, s.fitted l = true → Settled (s.leg l) s.freeze := Iff.rfl

theorem settle_settled (x : EgressLeg) (freeze : Bool) : Settled (x.settle freeze) freeze := by
  simp only [Settled, EgressLeg.settle, EgressLeg.mayServe, Bool.and_assoc, Bool.and_comm (!freeze)]

theorem Settled.congr {x y : EgressLeg} {freeze : Bool} (h : Settled x freeze) (hreq : y.request = x.request)
    (hhand : y.hand.isNone = x.hand.isNone) (hservice : y.service = x.service) : Settled y freeze := by
  rw [Settled, hreq, hhand, hservice]
  exact h

theorem legLike_settled {x y : EgressLeg} {freeze : Bool} (h : LegLike x y) (hx : Settled x freeze) :
    Settled y freeze := by
  obtain rfl | ⟨hand, hhand, rfl⟩ := h
  · exact hx
  · exact hx.congr rfl (by simp [hhand]) rfl

section
variable {s t : State}

theorem fitted_congr (h : t.straps = s.straps) (l : Leg) : t.fitted l = s.fitted l := by
  cases l with
  | a => rfl
  | b => simp [State.fitted, h]

/-- Legs that each stay settled. -/
theorem settled_of_legs (hs : s.RequestsSettled) (hstraps : t.straps = s.straps) (hfreeze : t.freeze = s.freeze)
    (h : ∀ l, Settled (s.leg l) s.freeze → Settled (t.leg l) s.freeze) : t.RequestsSettled := by
  rw [requestsSettled_iff] at hs ⊢
  intro l hl
  rw [fitted_congr hstraps] at hl
  rw [hfreeze]
  exact h l (hs l hl)

theorem settled_of_adm (h : AdmStep s t) (hs : s.RequestsSettled) : t.RequestsSettled :=
  settled_of_legs hs h.straps h.freeze fun l => legLike_settled (h.legs l)

theorem settled_of_quiet (h : Quiet s t) (hstraps : t.straps = s.straps) (hs : s.RequestsSettled) : t.RequestsSettled :=
  settled_of_legs hs hstraps h.freeze fun l hl => by rw [h.same l]; exact hl

theorem setLeg_settled (l : Leg) (x : EgressLeg) (hs : s.RequestsSettled)
    (h : Settled (s.leg l) s.freeze → Settled x s.freeze) : (s.setLeg l x).RequestsSettled :=
  settled_of_legs hs (by simp) (by simp) fun m hm => by
    by_cases e : m = l
    · subst e; rw [State.leg_setLeg_self]; exact h hm
    · rwa [State.leg_setLeg_ne s e]

theorem modLegSettled_settled (l : Leg) (g : EgressLeg → EgressLeg) (hs : s.RequestsSettled) :
    (s.modLegSettled l g).RequestsSettled := setLeg_settled l _ hs fun _ => settle_settled _ _

/-- A leg changed in nothing that its request follows. -/
theorem modLeg_settled (l : Leg) (g : EgressLeg → EgressLeg) (hs : s.RequestsSettled)
    (hreq : (g (s.leg l)).request = (s.leg l).request)
    (hhand : (g (s.leg l)).hand.isNone = (s.leg l).hand.isNone)
    (hservice : (g (s.leg l)).service = (s.leg l).service) : (s.modLeg l g).RequestsSettled :=
  setLeg_settled l _ hs fun h => h.congr hreq hhand hservice

theorem emit_settled (o : Outcome) (hs : s.RequestsSettled) : (s.emit o).RequestsSettled :=
  settled_of_adm (emit_adm s o) hs

/-! ## The operations of the legs -/

theorem signalled_settled {x : EgressLeg} {freeze : Bool} (h : Settled x freeze) : Settled x.signalled freeze := by
  unfold EgressLeg.signalled
  split
  next hhand =>
    split
    · exact h.congr rfl (by simp [hhand]) rfl
    · exact h
  · exact h

theorem clockTick_settled (hs : s.RequestsSettled) : s.clockTick.RequestsSettled :=
  settled_of_legs hs rfl rfl fun l hl => by rw [leg_clockTick]; exact signalled_settled hl

theorem modFlow_settled (f : FlowId) (g : Flow → Flow) (hs : s.RequestsSettled) : (s.modFlow f g).RequestsSettled := hs

theorem release_settled (id : Nat) (hs : s.RequestsSettled) : (s.release id).RequestsSettled := hs

theorem serve_settled (l : Leg) (e : Entry) (now : Nat) (hs : s.RequestsSettled) :
    (s.serve l e now).RequestsSettled := by
  have hsink : (s.sinkUnit l e).RequestsSettled :=
    modLegSettled_settled l _ (release_settled _ (modFlow_settled _ _ hs))
  unfold State.serve
  split
  · exact modLegSettled_settled l _ (release_settled _ ((settled_of_quiet
      ((modFlow_quiet s _ _ (by rw [dropOldest_counters]; exact id)).trans (countLate_quiet _ e.flow l)))
        ((modFlow_data s _ _ (dropOldest_like _ l)).trans (countLate_data _ e.flow l)).straps hs))
  · split
    · exact modLegSettled_settled l _ (modFlow_settled _ _ hs)
    · exact hsink
    · exact hsink
    · exact hs

theorem countFor_settled (h : Hand) (u : Bundle) (l : Leg) (g : LegCounts → LegCounts) (hs : s.RequestsSettled) :
    (s.countFor h u l g).RequestsSettled := by
  unfold State.countFor
  split
  · exact hs
  · exact modFlow_settled _ _ hs

theorem finishUnit_settled (l : Leg) (id : Nat) (hs : s.RequestsSettled) : (s.finishUnit l id).RequestsSettled :=
  modLegSettled_settled l _ (release_settled id hs)

theorem count_settled (l : Leg) (g : LegTotals → LegTotals) (hs : s.RequestsSettled) :
    (s.modLeg l (fun x => x.count g)).RequestsSettled := modLeg_settled l _ hs rfl rfl rfl

theorem endUnit_settled (l : Leg) (h : Hand) (u : Bundle) (hs : s.RequestsSettled) :
    (s.endUnit l h u).RequestsSettled := finishUnit_settled l _ (count_settled l _ (countFor_settled h u l _ hs))

theorem leg_countFor (h : Hand) (u : Bundle) (l m : Leg) (g : LegCounts → LegCounts) :
    (s.countFor h u l g).leg m = s.leg m := by
  unfold State.countFor
  split
  · rfl
  · exact s.leg_setFlow _ _ m

theorem hand_count (l : Leg) (g : LegTotals → LegTotals) :
    ((s.modLeg l (fun x => x.count g)).leg l).hand = (s.leg l).hand := by
  rw [State.modLeg, State.leg_setLeg_self]
  rfl

/-- Another hand put in place of the unit in hand. -/
theorem withHand_settled (l : Leg) (h : Hand) (hhand : (s.leg l).hand.isSome = true) (hs : s.RequestsSettled) :
    (s.modLeg l (fun x => x.withHand h)).RequestsSettled := by
  refine modLeg_settled l _ hs rfl ?_ rfl
  rw [← Option.not_isSome (s.leg l).hand, hhand]
  rfl

theorem takePacket_settled (l : Leg) (h : Hand) (u : Bundle) (hhand : (s.leg l).hand = some h)
    (hs : s.RequestsSettled) : (s.takePacket l h u).RequestsSettled := by
  unfold State.takePacket
  simp only
  split
  · exact withHand_settled l _ (by rw [hand_count, hhand]; rfl) (count_settled l _ hs)
  · exact finishUnit_settled l _ (count_settled l _ (countFor_settled h u l _ (count_settled l _ hs)))

theorem retryPacket_settled (l : Leg) (h : Hand) (u : Bundle) (hhand : (s.leg l).hand = some h)
    (hs : s.RequestsSettled) : (s.retryPacket l h u).RequestsSettled := by
  have hcount := count_settled l (fun c => { c with retries := bump c.retries })
    (countFor_settled h u l (fun c => { c with retries := bump c.retries }) hs)
  unfold State.retryPacket
  simp only
  split
  · exact withHand_settled l _ (by rw [hand_count, leg_countFor, hhand]; rfl) hcount
  · exact endUnit_settled l h u hcount

/-- An answer keeps the requests settled when it does so for the hand that the leg holds. -/
theorem answer_settled (l : Leg) (act : Hand → Bundle → State) (hs : s.RequestsSettled)
    (h : ∀ h u, (s.leg l).hand = some h → (act h u).RequestsSettled) : (s.answer l act).RequestsSettled := by
  unfold State.answer
  split
  · exact count_settled l _ hs
  next hhand =>
    split
    · exact count_settled l _ hs
    · split
      · exact h _ _ hhand
      · exact hs

/-- A permit line that falls or rises at an OUT leg, or falls at a DOWN one, changes nothing that is served. -/
theorem permit_settled (l : Leg) (level : Bool) (hs : s.RequestsSettled) :
    (s.modLeg l (fun x => { x with permit := level })).RequestsSettled := modLeg_settled l _ hs rfl rfl rfl

theorem permitFalls_settled (l : Leg) (hs : s.RequestsSettled) : (s.permitFalls l).RequestsSettled := by
  unfold State.permitFalls
  split
  · exact emit_settled _ (modLegSettled_settled l _ hs)
  · exact permit_settled l false hs

theorem permitRises_settled (l : Leg) (hs : s.RequestsSettled) : (s.permitRises l).RequestsSettled := by
  unfold State.permitRises
  split
  · exact emit_settled _ (modLegSettled_settled l _ hs)
  · exact emit_settled _ (modLegSettled_settled l _ hs)
  · exact permit_settled l true hs

theorem setFreeze_settled (s : State) (level : Bool) : (s.setFreeze level).RequestsSettled := by
  rw [requestsSettled_iff]
  intro l hl
  cases l with
  | a => exact settle_settled s.legA level
  | b =>
    have hfit : s.straps.legb = true := hl
    change Settled (if s.straps.legb then s.legB.settle level else s.legB) level
    rw [if_pos hfit]
    exact settle_settled s.legB level

theorem legOut_settled (l : Leg) (hs : s.RequestsSettled) : (s.legOut l).RequestsSettled := by
  unfold State.legOut
  split
  · exact emit_settled _ hs
  · exact emit_settled _ (modLegSettled_settled l _ hs)

theorem legIn_settled (l : Leg) (hs : s.RequestsSettled) : (s.legIn l).RequestsSettled := by
  unfold State.legIn
  split
  · exact emit_settled _ (modLegSettled_settled l _ hs)
  · exact emit_settled _ hs

theorem afterReset_settled (straps : Straps) (a b z : Bool) (pending : List Instr) :
    (State.afterReset straps a b z pending).RequestsSettled := by
  have hleg (permit : Bool) : Settled (EgressLeg.afterReset permit z) z := by cases permit <;> cases z <;> rfl
  rw [requestsSettled_iff]
  intro l hl
  cases l with
  | a => exact hleg a
  | b =>
    have hfit : straps.legb = true := hl
    change Settled (if straps.legb then EgressLeg.afterReset b z else EgressLeg.notFitted) z
    rw [if_pos hfit]
    exact hleg b

/-! ## Every act -/

theorem settled_of_dataAct {c : Instr} (h : DataAct s c t) (hs : s.RequestsSettled) : t.RequestsSettled := by
  have hstraps := h.step.straps
  cases h with
  | idle => exact hs
  | port c p => exact settled_of_quiet (setPort_quiet s p) hstraps hs
  | latch => exact settled_of_quiet (setTime_quiet s _) hstraps hs
  | packet => exact settled_of_quiet (judgePacket_quiet s _ _) hstraps hs
  | startDrain c f => exact settled_of_quiet (startDrain_quiet s f) hstraps hs
  | flush c f clock => exact settled_of_quiet ((setClock_quiet s clock).trans (flushFlow_quiet _ f)) hstraps hs
  | validReading c x => exact settled_of_quiet (validReading_quiet _ x) hstraps (clockTick_settled hs)
  | invalidReading => exact settled_of_quiet (invalidReading_quiet _) hstraps (clockTick_settled hs)
  | examine => exact settled_of_quiet (examineHead_quiet s _ _ _ _) hstraps hs
  | serve => exact serve_settled _ _ _ hs
  | take l => exact answer_settled l _ hs fun h u hhand => takePacket_settled l h u hhand hs
  | retry l => exact answer_settled l _ hs fun h u hhand => retryPacket_settled l h u hhand hs
  | fault l => exact answer_settled l _ hs fun h u _ => endUnit_settled l h u hs
  | reoffer c l h hhand => exact withHand_settled l _ (by rw [hhand]; rfl) hs
  | permitFalls c l => exact permitFalls_settled l hs
  | permitRises c l => exact permitRises_settled l hs
  | stallRanOut c l d => exact emit_settled _ (modLegSettled_settled l _ (settled_of_adm (reach_adm s d) hs))
  | setFreeze c level => exact setFreeze_settled s level
  | legOut c l => exact legOut_settled l hs
  | legIn c l => exact legIn_settled l hs

end

/-- Settles O54: an act either leaves the legs as they are but for their counters, or settles the leg it changes last,
or changes nothing that the request follows. -/
theorem everyStepKeepsTheRequests : Obligations.EveryStepKeepsTheRequests := by
  intro s t hs hstep
  obtain rfl | ⟨c, rest, h⟩ := act_of_step hstep
  · exact hs
  · exact h.kept_by_data (P := State.RequestsSettled) hs hs (fun straps a b z => afterReset_settled straps a b z rest)
      (fun t ht => settled_of_dataAct ht hs) (fun u t hu ht => settled_of_adm ht hu)

/-! ## The part in reset -/

/-- While full reset is held only RESET_END acts. -/
theorem exec_held {c : Instr} {s : State} (h : s.inReset = true)
    (hc : ∀ straps a b z, c ≠ .resetEnd straps a b z) : exec c s = .next s := by
  have hready : s.intakeReady = false := by simp [State.intakeReady, h]
  have hrec (t : State) : onRecord s t = .next s := onRecord_held hready
  have hact (t : State) : whenActing s t = .next s := whenActing_reset h
  have hwhen (b : Bool) (t : State) : whenever b s t = .next s := whenever_false (.inl h)
  cases c with
  | resetAssert =>
    have hself : { s with inReset := true } = s := by rw [← h]
    exact congrArg Host.Outcome.next hself
  | resetEnd straps a b z => exact absurd rfl (hc straps a b z)
  | binderExamination f => simp [exec, execBinderExamination, hwhen]; split <;> rfl
  | calendarNamesEntry l => simp [exec, execCalendarNamesEntry, hwhen]; split <;> rfl
  | retryReoffer l => simp [exec, execRetryReoffer, hwhen]; split <;> rfl
  | stallTimeout l => simp [exec, execStallTimeout, hwhen]; split <;> rfl
  | drainLimit f => simp [exec, execDrainLimit, hwhen]; split <;> rfl
  | claimTimeout last => simp [exec, execClaimTimeout, hact]; split <;> rfl
  | arbitrationLoss => simp [exec, execArbitrationLoss, hact]; split <;> rfl
  | noticeComplete => simp [exec, execNoticeComplete, hact]; split <;> rfl
  | listenInTimeout => simp [exec, execListenInTimeout, hwhen]; split <;> rfl
  | packetArrival => exact hrec _
  | declare => exact hrec _
  | close => exact hrec _
  | abandon => exact hrec _
  | queryFlow => exact hrec _
  | queryPeers => exact hrec _
  | queryStation => exact hrec _
  | legControlOut => exact hrec _
  | legControlIn => exact hrec _
  | unknownDirective => exact hrec _
  | timeStepStrobe => exact hact _
  | timeReading => exact hact _
  | freezeRise => exact hact _
  | freezeFall => exact hact _
  | noticeReceived => exact hact _
  | unknownHeader => exact hact _
  | characterReceived => exact hact _
  | refreshTick => exact hact _
  | _ => exact hwhen _ _

/-- Settles O3: every arm tests the mark, and so does every output. -/
theorem noBlockActsInReset : Obligations.NoBlockActsInReset := by
  refine ⟨fun s => rfl, fun c s h hc => ⟨exec_held h hc, ?_, ?_, ?_, fun l => ⟨?_, ?_⟩, ?_⟩⟩
  · simp [State.intakeReady, h]
  · simp [State.attention, h]
  · simp [State.onOutcomeStream, h]
  · simp [State.offer, h]
  · simp [State.requestOpen, h]
  · simp [State.drive, h]

end Sys2Proof.Proofs.Requests
end

section
/-! The Cell Store (R38, R40): the free pool, and the holder counts against the places where the units stand. -/

namespace Sys2Proof.Proofs.CellStore

open Sys2Proof Sys2Proof.Machine Sys2Proof.Proofs.Frames Sys2Proof.Proofs.Acts Sys2Proof.Proofs.Counters

/-! ## Units under their numbers -/

theorem map_updateFirst {α β : Type} (r : α → β) (p : α → Bool) {g : α → α} (h : ∀ x, r (g x) = r x) (xs : List α) :
    (updateFirst p g xs).map r = xs.map r := by
  induction xs with
  | nil => rfl
  | cons x xs ih =>
    simp only [updateFirst]
    split <;> simp [h, ih]

theorem ids_lowered (i : Nat) (xs : List Bundle) :
    (updateFirst (fun v => v.id == i) (fun v => { v with holders := v.holders - 1 }) xs).map Bundle.id =
      xs.map Bundle.id := map_updateFirst _ _ (by intro; rfl) xs

/-- With all numbers different, the first unit with a number is the only one. -/
theorem updateFirst_eq_map {xs : List Bundle} (h : (xs.map Bundle.id).Nodup) (i : Nat) (g : Bundle → Bundle) :
    updateFirst (fun u => u.id == i) g xs = xs.map (fun u => if u.id = i then g u else u) := by
  induction xs with
  | nil => rfl
  | cons x xs ih =>
    rw [List.map_cons, List.nodup_cons] at h
    simp only [updateFirst, beq_iff_eq, List.map_cons]
    split
    next hx =>
      have hrest : xs.map (fun u => if u.id = i then g u else u) = xs := by
        conv => rhs; rw [← List.map_id xs]
        refine List.map_congr_left fun u hu => if_neg fun e => h.1 ?_
        rw [hx, ← e]
        exact List.mem_map_of_mem hu
      rw [hrest]
    · rw [ih h.2]

theorem eraseP_eq_filter {xs : List Bundle} (h : (xs.map Bundle.id).Nodup) (i : Nat) :
    xs.eraseP (fun u => u.id == i) = xs.filter (fun u => u.id != i) := by
  induction xs with
  | nil => rfl
  | cons x xs ih =>
    rw [List.map_cons, List.nodup_cons] at h
    by_cases hx : x.id = i
    · have hrest : xs.filter (fun u => u.id != i) = xs := by
        rw [List.filter_eq_self]
        intro u hu
        simp only [bne_iff_ne, ne_eq]
        intro e
        exact h.1 (by rw [hx, ← e]; exact List.mem_map_of_mem hu)
      simp [hx, hrest]
    · simp [hx, ih h.2]

theorem find_of_mem {st : Store} (h : (st.units.map Bundle.id).Nodup) {u : Bundle} (hu : u ∈ st.units) :
    st.find u.id = some u := by
  cases hf : st.find u.id with
  | none =>
    have := List.find?_eq_none.mp hf u hu
    simp at this
  | some v =>
    obtain ⟨hv, hid⟩ := Store.find_some hf
    rw [List.inj_on_of_nodup_map h hv hu hid]

/-! ## The free pool -/

/-- The free pool and the held units make up the whole Cell Store (R40). -/
def Whole (st : Store) : Prop := st.freeCells + (st.units.map Bundle.cells).sum = 8192

theorem sum_eraseP (xs : List Bundle) {i : Nat} {u : Bundle} (h : xs.find? (fun v => v.id == i) = some u) :
    u.cells + ((xs.eraseP (fun v => v.id == i)).map Bundle.cells).sum = (xs.map Bundle.cells).sum := by
  induction xs with
  | nil => cases h
  | cons x xs ih =>
    rw [List.find?_cons] at h
    rw [List.eraseP_cons]
    split at h
    next hx => cases h; simp [hx]
    next hx => simp [hx, ← ih h]; omega

theorem release_whole {st : Store} (i : Nat) (h : Whole st) : Whole (st.release i) := by
  cases hf : st.find i with
  | none => rwa [Store.release_missing hf]
  | some u =>
    rcases Nat.lt_or_ge 1 u.holders with hl | hl
    · rw [Store.release_held hf hl, Whole, map_updateFirst]
      · exact h
      · exact fun _ => rfl
    · have hsum := sum_eraseP st.units hf
      rw [Store.release_last hf hl]
      unfold Whole at h ⊢
      simp only
      omega

theorem foldl_release_whole {st : Store} (ids : List Nat) (h : Whole st) : Whole (ids.foldl Store.release st) := by
  induction ids generalizing st with
  | nil => exact h
  | cons i ids ih => exact ih (release_whole i h)

theorem bind_whole {st : Store} (i due n : Nat) (h : Whole st) : Whole (st.bind i due n) := by
  rw [Whole, Store.bind, map_updateFirst]
  · exact h
  · exact fun _ => rfl

/-- The cells of a packet that the free pool can give. -/
theorem start_whole {st : Store} (f : FlowId) (fs : Bool) (bytes : List Byte) (hc : cellsOf bytes ≤ st.freeCells)
    (h : Whole st) : Whole (st.start f fs bytes) := by
  unfold Whole Store.start at *
  simp only [List.map_append, List.sum_append, List.map_cons, List.map_nil, List.sum_cons, List.sum_nil,
    Bundle.cells] at *
  omega

theorem sum_join (xs : List Bundle) {i : Nat} {u : Bundle} (bytes : List Byte)
    (h : xs.find? (fun v => v.id == i) = some u) :
    ((updateFirst (fun v => v.id == i) (fun v => { v with packets := v.packets ++ [bytes] }) xs).map
      Bundle.cells).sum = (xs.map Bundle.cells).sum + cellsOf bytes := by
  induction xs with
  | nil => cases h
  | cons x xs ih =>
    rw [List.find?_cons] at h
    simp only [updateFirst]
    split at h
    next hx => simp [hx, Bundle.cells]; omega
    next hx => simp [hx, ih h]; omega

theorem join_whole {st : Store} (i : Nat) (bytes : List Byte) (hc : cellsOf bytes ≤ st.freeCells) (h : Whole st) :
    Whole (st.join i bytes) := by
  unfold Store.join
  split
  · exact h
  next hf =>
    have hsum := sum_join st.units bytes hf
    unfold Whole at h ⊢
    simp only
    omega

/-! ## Holder counts -/

/-- The units' numbers differ and are below the next one, and each holder count is the number of holds that `held`
gives for the unit. -/
structure Exact (st : Store) (held : Nat → Nat) : Prop where
  nodup : (st.units.map Bundle.id).Nodup
  units : ∀ u ∈ st.units, u.id < st.nextId ∧ 1 ≤ u.holders ∧ u.holders = held u.id
  exist : ∀ i, 1 ≤ held i → ∃ u ∈ st.units, u.id = i

/-- Two units that differ in their holder counts at most. -/
def Alike (u v : Bundle) : Prop := v = { u with holders := v.holders }

theorem Alike.refl (u : Bundle) : Alike u u := rfl

theorem Alike.trans {u v w : Bundle} (h : Alike u v) (k : Alike v w) : Alike u w := by
  rw [Alike] at *
  rw [k, h]

/-- One hold let go: the unit loses a holder, or leaves at the last one. -/
theorem Exact.release {st : Store} {held held' : Nat → Nat} (h : Exact st held) {i : Nat}
    (hd : ∀ j, held' j + (if j = i then 1 else 0) = held j) : Exact (st.release i) held' := by
  have hi : held' i + 1 = held i := by simpa using hd i
  have hne {j : Nat} (hj : j ≠ i) : held' j = held j := by simpa [hj] using hd j
  obtain ⟨u, hu, rfl⟩ := h.exist i (by omega)
  have hf := find_of_mem h.nodup hu
  obtain ⟨hlt, hpos, hcount⟩ := h.units u hu
  rcases Nat.lt_or_ge 1 u.holders with hl | hl
  · rw [Store.release_held hf hl]
    refine ⟨by rw [ids_lowered]; exact h.nodup, fun v hv => ?_, fun j hj => ?_⟩
    · rw [updateFirst_eq_map h.nodup] at hv
      obtain ⟨w, hw, rfl⟩ := List.mem_map.mp hv
      obtain ⟨hwlt, hwpos, hwcount⟩ := h.units w hw
      split
      next e =>
        obtain rfl : w = u := List.inj_on_of_nodup_map h.nodup hw hu e
        exact ⟨hlt, by simp only; omega, by simp only; omega⟩
      next e => exact ⟨hwlt, hwpos, by rw [hne e]; exact hwcount⟩
    · obtain ⟨w, hw, rfl⟩ := h.exist j (by have := hd j; omega)
      have hmem : w.id ∈ (updateFirst (fun v => v.id == u.id)
          (fun v => { v with holders := v.holders - 1 }) st.units).map Bundle.id := by
        rw [ids_lowered]
        exact List.mem_map_of_mem hw
      obtain ⟨v, hv, e⟩ := List.mem_map.mp hmem
      exact ⟨v, hv, e⟩
  · rw [Store.release_last hf hl, eraseP_eq_filter h.nodup]
    refine ⟨h.nodup.sublist (List.filter_sublist.map _), fun v hv => ?_, fun j hj => ?_⟩
    · obtain ⟨hv, hvne⟩ := List.mem_filter.mp hv
      obtain ⟨hvlt, hvpos, hvcount⟩ := h.units v hv
      exact ⟨hvlt, hvpos, by rw [hne (by simpa using hvne)]; exact hvcount⟩
    · have hji : j ≠ u.id := by rintro rfl; omega
      obtain ⟨w, hw, rfl⟩ := h.exist j (by rw [← hne hji]; exact hj)
      exact ⟨w, List.mem_filter.mpr ⟨hw, by simpa using hji⟩, rfl⟩

theorem Exact.congr {st : Store} {held held' : Nat → Nat} (h : Exact st held) (e : ∀ i, held' i = held i) :
    Exact st held' := (funext e : held' = held) ▸ h

theorem Exact.releaseAll {st : Store} {held held' : Nat → Nat} {ids : List Nat} (h : Exact st held)
    (hd : ∀ j, held' j + ids.count j = held j) : Exact (ids.foldl Store.release st) held' := by
  induction ids generalizing st held with
  | nil => exact h.congr fun i => by simpa using hd i
  | cons i ids ih =>
    refine ih (st := st.release i) (held := fun j => held' j + ids.count j) (h.release fun j => ?_) fun _ => rfl
    rw [← hd j, List.count_cons]
    simp only [beq_iff_eq, eq_comm (a := j), Nat.add_assoc]

/-- A released unit that is still held is the unit that it was. -/
theorem release_find {st : Store} (h : (st.units.map Bundle.id).Nodup) {i j : Nat} {v : Bundle}
    (hv : (st.release i).find j = some v) : ∃ u, st.find j = some u ∧ Alike u v := by
  have hmem : ∃ u ∈ st.units, Alike u v := by
    obtain ⟨hv, -⟩ := Store.find_some hv
    cases hf : st.find i with
    | none => rw [Store.release_missing hf] at hv; exact ⟨v, hv, rfl⟩
    | some u =>
      rcases Nat.lt_or_ge 1 u.holders with hl | hl
      · rw [Store.release_held hf hl, updateFirst_eq_map h] at hv
        obtain ⟨w, hw, rfl⟩ := List.mem_map.mp hv
        refine ⟨w, hw, ?_⟩
        split
        · rfl
        · rfl
      · rw [Store.release_last hf hl] at hv
        exact ⟨v, List.mem_of_mem_eraseP hv, rfl⟩
  obtain ⟨u, hu, hal⟩ := hmem
  obtain ⟨-, hid⟩ := Store.find_some hv
  have huid : u.id = j := by rw [← hid, hal]
  exact ⟨u, huid ▸ find_of_mem h hu, hal⟩

theorem release_nodup {st : Store} (h : (st.units.map Bundle.id).Nodup) (i : Nat) :
    ((st.release i).units.map Bundle.id).Nodup := by
  cases hf : st.find i with
  | none => rwa [Store.release_missing hf]
  | some u =>
    rcases Nat.lt_or_ge 1 u.holders with hl | hl
    · rw [Store.release_held hf hl, ids_lowered]
      exact h
    · rw [Store.release_last hf hl, eraseP_eq_filter h]
      exact h.sublist (List.filter_sublist.map _)

theorem foldl_release_find {st : Store} (h : (st.units.map Bundle.id).Nodup) (ids : List Nat) {j : Nat} {v : Bundle}
    (hv : (ids.foldl Store.release st).find j = some v) : ∃ u, st.find j = some u ∧ Alike u v := by
  induction ids generalizing st with
  | nil => exact ⟨v, hv, rfl⟩
  | cons i ids ih =>
    obtain ⟨w, hw, hal⟩ := ih (release_nodup h i) hv
    obtain ⟨u, hu, hal'⟩ := release_find h hw
    exact ⟨u, hu, hal'.trans hal⟩

theorem foldl_release_nextId (st : Store) (ids : List Nat) : (ids.foldl Store.release st).nextId = st.nextId :=
  StationTime.foldl_keeps Store.nextId (fun st i => (st.release_pool i).2.1) ids st

/-! ## Places -/

/-- Sums over the flow numbers of functions that differ at one number. -/
theorem sum_flows_update (F G : FlowId → Nat) (f : FlowId) (h : ∀ g, g ≠ f → G g = F g) :
    (allFlows.map G).sum + F f = (allFlows.map F).sum + G f := by
  have hG : (allFlows.map G).sum = ∑ g : FlowId, G g := (Fin.sum_univ_def G).symm
  have hF : (allFlows.map F).sum = ∑ g : FlowId, F g := (Fin.sum_univ_def F).symm
  rw [hG, hF, ← Finset.add_sum_erase _ G (Finset.mem_univ f), ← Finset.add_sum_erase _ F (Finset.mem_univ f)]
  have hrest : ∑ g ∈ Finset.univ.erase f, G g = ∑ g ∈ Finset.univ.erase f, F g :=
    Finset.sum_congr rfl fun g hg => h g (Finset.ne_of_mem_erase hg)
  omega

/-- How many times a leg's hand holds a unit. -/
def handCount (x : EgressLeg) (i : Nat) : Nat := if x.hand.map Hand.unit = some i then 1 else 0

theorem places_eq (s : State) (i : Nat) :
    s.places i = (allFlows.map (fun f => (s.flow f).holds.count i)).sum + (handCount s.legA i + handCount s.legB i) := by
  unfold State.places handCount
  congr 1
  simp only [List.filter_cons, List.filter_nil, State.leg, beq_iff_eq]
  split_ifs <;> rfl

theorem places_setFlow (s : State) (f : FlowId) (x : Flow) (i : Nat) :
    (s.setFlow f x).places i + (s.flow f).holds.count i = s.places i + x.holds.count i := by
  have h := sum_flows_update (fun g => (s.flow g).holds.count i) (fun g => ((s.setFlow f x).flow g).holds.count i) f
    fun g hg => by rw [s.flow_setFlow_ne hg]
  rw [State.flow_setFlow_self] at h
  rw [places_eq, places_eq, State.setFlow_legA, State.setFlow_legB]
  omega

theorem places_setLeg (s : State) (l : Leg) (x : EgressLeg) (i : Nat) :
    (s.setLeg l x).places i + handCount (s.leg l) i = s.places i + handCount x i := by
  rw [places_eq, places_eq]
  cases l with
  | a =>
    change (allFlows.map (fun f => (s.flow f).holds.count i)).sum + (handCount x i + handCount s.legB i) +
      handCount s.legA i = _
    omega
  | b =>
    change (allFlows.map (fun f => (s.flow f).holds.count i)).sum + (handCount s.legA i + handCount x i) +
      handCount s.legB i = _
    omega

/-- The units that wait to be bound: the run in the slot and the intake queue (R41, R51). -/
def waiting (x : Flow) : List Nat := x.slot.units ++ x.intakeQ

theorem holds_eq (x : Flow) : x.holds = waiting x ++ x.queueA ++ x.queueB := rfl

theorem count_le_places (s : State) (f : FlowId) (i : Nat) : (s.flow f).holds.count i ≤ s.places i := by
  have hle : (s.flow f).holds.count i ≤ (allFlows.map (fun g => (s.flow g).holds.count i)).sum :=
    List.single_le_sum (fun _ _ => Nat.zero_le _) _ (List.mem_map_of_mem (List.mem_finRange f))
  rw [places_eq]
  omega

theorem places_of_waiting {s : State} {f : FlowId} {i : Nat} (h : i ∈ waiting (s.flow f)) : 1 ≤ s.places i := by
  refine le_trans ?_ (count_le_places s f i)
  rw [holds_eq, List.append_assoc, List.count_append]
  have := List.count_pos_iff.mpr h
  omega

theorem places_of_queue {s : State} {f : FlowId} {l : Leg} {i : Nat} (h : i ∈ (s.flow f).queue l) : 1 ≤ s.places i := by
  refine le_trans ?_ (count_le_places s f i)
  rw [holds_eq, List.count_append, List.count_append]
  cases l with
  | a => have : 1 ≤ (s.flow f).queueA.count i := List.count_pos_iff.mpr h; omega
  | b => have : 1 ≤ (s.flow f).queueB.count i := List.count_pos_iff.mpr h; omega

theorem places_of_hand {s : State} {l : Leg} {h : Hand} (hh : (s.leg l).hand = some h) : 1 ≤ s.places h.unit := by
  have hc : handCount (s.leg l) h.unit = 1 := by simp [handCount, hh]
  rw [places_eq]
  cases l with
  | a => have : handCount s.legA h.unit = 1 := hc; omega
  | b => have : handCount s.legB h.unit = 1 := hc; omega

theorem holdersExact_iff (s : State) :
    s.HoldersExact ↔ Exact s.store s.places ∧ ∀ f, ∀ i ∈ waiting (s.flow f), s.places i = 1 :=
  ⟨fun ⟨h1, h2, h3, h4⟩ => ⟨⟨h1, h2, h3⟩, h4⟩, fun ⟨h, h4⟩ => ⟨h.nodup, h.units, h.exist, h4⟩⟩

/-! ## What an operation keeps of the Cell Store -/

/-- A unit that may still change: it waits to be bound, or its number is not given out yet. -/
def Open (s : State) (i : Nat) : Prop := (∃ f, i ∈ waiting (s.flow f)) ∨ s.store.nextId ≤ i

/-- The pool stays whole and the holder counts exact, and of the units that do not wait to be bound only the holder
counts change. -/
structure Cells (s t : State) : Prop where
  pool : s.PoolWhole → t.PoolWhole
  exact : s.HoldersExact → t.HoldersExact
  kept : s.HoldersExact → ∀ i v, t.store.find i = some v → (∃ u, s.store.find i = some u ∧ Alike u v) ∨ Open s i
  waits : ∀ f, ∀ i ∈ waiting (t.flow f), Open s i
  next : s.store.nextId ≤ t.store.nextId

theorem Cells.refl (s : State) : Cells s s :=
  ⟨id, id, fun _ _ v hv => .inl ⟨v, hv, rfl⟩, fun f _ hi => .inl ⟨f, hi⟩, le_rfl⟩

theorem Cells.trans {s t u : State} (h : Cells s t) (k : Cells t u) : Cells s u := by
  have hopen {i : Nat} (hi : Open t i) : Open s i := hi.elim (fun ⟨f, hf⟩ => h.waits f i hf) (.inr ∘ h.next.trans)
  refine ⟨k.pool ∘ h.pool, k.exact ∘ h.exact, fun hs i v hv => ?_, fun f i hi => hopen (k.waits f i hi),
    h.next.trans k.next⟩
  obtain ⟨w, hw, hal⟩ | hi := k.kept (h.exact hs) i v hv
  · exact (h.kept hs i w hw).imp_left fun ⟨x, hx, hal'⟩ => ⟨x, hx, hal'.trans hal⟩
  · exact .inr (hopen hi)

theorem foldl_cells {α : Type} {turn : State → α → State} (h : ∀ s a, Cells s (turn s a)) (as : List α)
    (s : State) : Cells s (as.foldl turn s) := foldl_rel Cells.refl Cells.trans h as s

/-- Units let go: each hold that a place loses is released. -/
theorem cells_of_discard {s t : State} (ids : List Nat) (hstore : t.store = ids.foldl Store.release s.store)
    (hplaces : ∀ i, t.places i + ids.count i = s.places i)
    (hwait : ∀ f, ∀ i ∈ waiting (t.flow f), i ∈ waiting (s.flow f)) : Cells s t where
  pool h := by
    have : Whole t.store := hstore ▸ foldl_release_whole ids h
    exact this
  exact h := by
    rw [holdersExact_iff] at h ⊢
    refine ⟨hstore ▸ h.1.releaseAll hplaces, fun f i hi => ?_⟩
    have := h.2 f i (hwait f i hi)
    have := hplaces i
    have := places_of_waiting hi
    omega
  kept h i v hv := by
    rw [hstore] at hv
    exact .inl (foldl_release_find h.1 ids hv)
  waits f i hi := .inl ⟨f, hwait f i hi⟩
  next := by rw [hstore, foldl_release_nextId]

/-- Nothing but the flows' holds and the hands decides on the places, and they stay. -/
structure Still (s t : State) : Prop where
  store : t.store = s.store
  slot : ∀ f, (t.flow f).slot = (s.flow f).slot
  intakeQ : ∀ f, (t.flow f).intakeQ = (s.flow f).intakeQ
  places : ∀ i, t.places i = s.places i

theorem Still.refl (s : State) : Still s s := ⟨rfl, fun _ => rfl, fun _ => rfl, fun _ => rfl⟩

theorem Still.trans {s t u : State} (h : Still s t) (k : Still t u) : Still s u :=
  ⟨k.store.trans h.store, fun f => (k.slot f).trans (h.slot f), fun f => (k.intakeQ f).trans (h.intakeQ f),
    fun i => (k.places i).trans (h.places i)⟩

theorem foldl_still {α : Type} {turn : State → α → State} (h : ∀ s a, Still s (turn s a)) (as : List α)
    (s : State) : Still s (as.foldl turn s) := foldl_rel Still.refl Still.trans h as s

theorem Still.waiting {s t : State} (h : Still s t) (f : FlowId) : CellStore.waiting (t.flow f) = CellStore.waiting (s.flow f) := by
  rw [CellStore.waiting, h.slot, h.intakeQ]
  rfl

theorem Still.cells {s t : State} (h : Still s t) : Cells s t :=
  cells_of_discard [] h.store (fun i => by rw [List.count_nil, Nat.add_zero, h.places]) fun f i hi => by rwa [h.waiting] at hi

variable (s : State)

theorem still_of_flows {t : State} (hstore : t.store = s.store) (hlegA : t.legA = s.legA) (hlegB : t.legB = s.legB)
    (hslot : ∀ f, (t.flow f).slot = (s.flow f).slot) (hq : ∀ f, (t.flow f).intakeQ = (s.flow f).intakeQ)
    (ha : ∀ f, (t.flow f).queueA = (s.flow f).queueA) (hb : ∀ f, (t.flow f).queueB = (s.flow f).queueB) :
    Still s t :=
  ⟨hstore, hslot, hq, fun i => by
    rw [places_eq, places_eq, hlegA, hlegB]
    simp only [Flow.holds, hslot, hq, ha, hb]⟩

theorem emit_still (o : Outcome) : Still s (s.emit o) := ⟨rfl, fun _ => rfl, fun _ => rfl, fun _ => rfl⟩

theorem setTime_still (x : TimeState) : Still s { s with time := x } :=
  ⟨rfl, fun _ => rfl, fun _ => rfl, fun _ => rfl⟩

theorem setClock_still (n : Nat) : Still s { s with ownClock := n } :=
  ⟨rfl, fun _ => rfl, fun _ => rfl, fun _ => rfl⟩

theorem setPort_still (p : Port) : Still s { s with port := p } := ⟨rfl, fun _ => rfl, fun _ => rfl, fun _ => rfl⟩

/-- A flow changed in none of its holds. -/
theorem modFlow_still (f : FlowId) (g : Flow → Flow) (hslot : (g (s.flow f)).slot = (s.flow f).slot)
    (hq : (g (s.flow f)).intakeQ = (s.flow f).intakeQ) (ha : (g (s.flow f)).queueA = (s.flow f).queueA)
    (hb : (g (s.flow f)).queueB = (s.flow f).queueB) : Still s (s.modFlow f g) := by
  have hread {β : Type} (r : Flow → β) (hr : r (g (s.flow f)) = r (s.flow f)) (h : FlowId) :
      r ((s.modFlow f g).flow h) = r (s.flow h) := by
    rw [State.modFlow, State.flow_setFlow]
    split
    · subst_vars; exact hr
    · rfl
  exact still_of_flows s rfl rfl rfl (hread _ hslot) (hread _ hq) (hread _ ha) (hread _ hb)

/-- A leg changed with the same unit in hand. -/
theorem setLeg_still (l : Leg) (x : EgressLeg) (h : x.hand.map Hand.unit = (s.leg l).hand.map Hand.unit) :
    Still s (s.setLeg l x) := by
  refine ⟨by simp, fun f => by simp, fun f => by simp, fun i => ?_⟩
  have := places_setLeg s l x i
  unfold handCount at this
  rw [h] at this
  omega

theorem modLeg_still (l : Leg) (g : EgressLeg → EgressLeg)
    (h : (g (s.leg l)).hand.map Hand.unit = (s.leg l).hand.map Hand.unit) : Still s (s.modLeg l g) :=
  setLeg_still s l _ h

theorem modLegSettled_still (l : Leg) (g : EgressLeg → EgressLeg)
    (h : (g (s.leg l)).hand.map Hand.unit = (s.leg l).hand.map Hand.unit) : Still s (s.modLegSettled l g) :=
  setLeg_still s l _ h

theorem countOn_still (f : FlowId) (l : Leg) (g : LegCounts → LegCounts) :
    Still s (s.modFlow f (fun x => x.countOn l g)) := modFlow_still s f _ rfl rfl rfl rfl

theorem countLag_still (f : FlowId) (l : Leg) (d : Nat) : Still s (s.countLag f l d) :=
  (countOn_still s f l _).trans (modLeg_still _ l _ rfl)

theorem countLate_still (f : FlowId) (l : Leg) : Still s (s.countLate f l) :=
  (countOn_still s f l _).trans (modLeg_still _ l _ rfl)

/-- The frame of admission and of the peer line moves no unit. -/
theorem still_of_adm {t : State} (h : AdmStep s t) : Still s t := by
  have hhand (l : Leg) : (t.leg l).hand.map Hand.unit = (s.leg l).hand.map Hand.unit := by
    obtain e | ⟨hand, hh, e⟩ := h.legs l <;> rw [e]
    rw [hh]
    rfl
  refine ⟨h.store, fun f => (h.flows f).slot, fun f => (h.flows f).intakeQ, fun i => ?_⟩
  rw [places_eq, places_eq]
  have hcount {x y : EgressLeg} (e : y.hand.map Hand.unit = x.hand.map Hand.unit) : handCount y i = handCount x i := by
    rw [handCount, e]
    rfl
  have ha : handCount t.legA i = handCount s.legA i := hcount (hhand .a)
  have hb : handCount t.legB i = handCount s.legB i := hcount (hhand .b)
  simp only [Flow.holds, (h.flows _).slot, (h.flows _).intakeQ, (h.flows _).queueA, (h.flows _).queueB, ha, hb]

/-! ## Discards -/

end Sys2Proof.Proofs.CellStore
end

section
/-! The entry that the calendar names to a leg (R82-R84): the least of the eligible entries in the order of due time,
class rank and flow number. -/

namespace Sys2Proof.Proofs.Calendar

open Sys2Proof Sys2Proof.Machine

section
variable (s : State) (l : Leg)

/-- The key of R84: due time, then class rank, then flow number. -/
def key (f : FlowId) (due : Nat) : ℕ ×ₗ ℕ ×ₗ ℕ := toLex (due, toLex ((s.flow f).params.cls.rank, f.val))

theorem before_iff (x y : Entry) : s.before x y = true ↔ key s x.flow x.due < key s y.flow y.due := by
  simp [State.before, key, Prod.Lex.toLex_lt_toLex]

theorem key_injective {f g : FlowId} {x y : Nat} (h : key s f x = key s g y) : f = g := by
  have hpair := toLex.injective h
  have hrank := toLex.injective (Prod.ext_iff.mp hpair).2
  exact Fin.ext (Prod.ext_iff.mp hrank).2

/-- The earlier of two keeps the first or takes the second, whichever has the lower key. -/
theorem earlier_some (x y : Entry) : ∃ z, s.earlier (some x) y = some z ∧ (z = x ∨ z = y) ∧
    key s z.flow z.due ≤ key s x.flow x.due ∧ key s z.flow z.due ≤ key s y.flow y.due := by
  cases hb : s.before y x with
  | true =>
    have hlt := (before_iff s y x).mp hb
    exact ⟨y, by simp [State.earlier, hb], .inr rfl, hlt.le, le_rfl⟩
  | false =>
    have hle : key s x.flow x.due ≤ key s y.flow y.due := by
      rw [← not_lt, ← before_iff, hb]
      decide
    exact ⟨x, by simp [State.earlier, hb], .inl rfl, le_rfl, hle⟩

/-- The run over a list names a least entry of it. -/
theorem foldl_earlier_some (x : Entry) (ys : List Entry) : ∃ e, ys.foldl s.earlier (some x) = some e ∧ e ∈ x :: ys ∧
    ∀ y ∈ x :: ys, key s e.flow e.due ≤ key s y.flow y.due := by
  induction ys generalizing x with
  | nil => exact ⟨x, rfl, by simp, by simp⟩
  | cons y ys ih =>
    obtain ⟨z, hz, hzmem, hzx, hzy⟩ := earlier_some s x y
    obtain ⟨e, he, hmem, hle⟩ := ih z
    have hez : key s e.flow e.due ≤ key s z.flow z.due := hle z (by simp)
    refine ⟨e, by rw [List.foldl_cons, hz, he], ?_, fun w hw => ?_⟩
    · rcases List.mem_cons.mp hmem with rfl | hmem
      · rcases hzmem with rfl | rfl <;> simp
      · simp [hmem]
    · rcases List.mem_cons.mp hw with rfl | hw
      · exact hez.trans hzx
      · rcases List.mem_cons.mp hw with rfl | hw
        · exact hez.trans hzy
        · exact hle w (by simp [hw])

theorem foldl_earlier_none {ys : List Entry} (h : ys.foldl s.earlier none = none) : ys = [] := by
  cases ys with
  | nil => rfl
  | cons y ys =>
    obtain ⟨e, he, -⟩ := foldl_earlier_some s y ys
    rw [List.foldl_cons] at h
    change ys.foldl s.earlier (some y) = none at h
    rw [he] at h
    cases h

theorem foldl_earlier_least {ys : List Entry} {e : Entry} (h : ys.foldl s.earlier none = some e) :
    e ∈ ys ∧ ∀ y ∈ ys, key s e.flow e.due ≤ key s y.flow y.due := by
  cases ys with
  | nil => cases h
  | cons y ys =>
    obtain ⟨e', he, hmem, hle⟩ := foldl_earlier_some s y ys
    rw [List.foldl_cons] at h
    change ys.foldl s.earlier (some y) = some e at h
    rw [he, Option.some.injEq] at h
    exact h ▸ ⟨hmem, hle⟩

/-! ## The eligible entries -/

/-- A flow's oldest unit on the leg with its due time reached and a credit there (R82, R83). -/
def Eligible (f : FlowId) (id due : Nat) : Prop :=
  s.time.valid = true ∧ (∃ c, s.time.cursor = some c ∧ due / 32 ≤ c) ∧
    (∃ rest, (s.flow f).queue l = id :: rest) ∧ s.unitDue id = some due ∧ 1 ≤ (s.flow f).credit l

theorem entry_iff (f : FlowId) (e : Entry) : s.entry l f = some e ↔
    e.flow = f ∧ (∃ rest, (s.flow f).queue l = e.unit :: rest) ∧ s.unitDue e.unit = some e.due := by
  unfold State.entry
  obtain ⟨g, id, due⟩ := e
  split
  next x rest hq =>
    cases hd : s.unitDue x with
    | none =>
      simp only [Option.map_none, hq, List.cons.injEq, false_iff, reduceCtorEq]
      rintro ⟨-, ⟨-, rfl, -⟩, hdue⟩
      simp [hd] at hdue
    | some d =>
      simp only [Option.map_some, Option.some.injEq, Entry.mk.injEq, hq, List.cons.injEq]
      constructor
      · rintro ⟨rfl, rfl, rfl⟩; exact ⟨rfl, ⟨rest, rfl, rfl⟩, hd⟩
      · rintro ⟨rfl, ⟨-, rfl, -⟩, hdue⟩; rw [hd] at hdue; cases hdue; exact ⟨rfl, rfl, rfl⟩
  next hq => simp [hq]

/-- The entries that the calendar chooses among, with the cursor at c. -/
def eligibles (c : Nat) : List Entry := (allFlows.filterMap (s.entry l)).filter (s.eligible l c)

theorem mem_eligibles {c : Nat} (hvalid : s.time.valid = true) (hc : s.time.cursor = some c) (e : Entry) :
    e ∈ eligibles s l c ↔ Eligible s l e.flow e.unit e.due := by
  unfold eligibles Eligible
  rw [List.mem_filter, List.mem_filterMap]
  simp only [entry_iff, State.eligible, Bool.and_eq_true, decide_eq_true_eq, hvalid, hc, true_and, Option.some.injEq,
    exists_eq_left', slotOf, Config.slotNs]
  constructor
  · rintro ⟨⟨f, -, rfl, hq, hd⟩, hslot, hcredit⟩
    exact ⟨of_decide_eq_true hslot, hq, hd, hcredit⟩
  · rintro ⟨hslot, hq, hd, hcredit⟩
    exact ⟨⟨e.flow, List.mem_finRange _, rfl, hq, hd⟩, decide_eq_true hslot, hcredit⟩

theorem named_eq {c : Nat} (hvalid : s.time.valid = true) (hc : s.time.cursor = some c) :
    s.named l = (eligibles s l c).foldl s.earlier none := by
  simp [State.named, hvalid, hc, eligibles]

theorem named_valid {e : Entry} (h : s.named l = some e) :
    s.time.valid = true ∧ ∃ c, s.time.cursor = some c ∧ (eligibles s l c).foldl s.earlier none = some e := by
  unfold State.named at h
  split at h
  next c hvalid hc => exact ⟨hvalid, c, hc, h⟩
  · cases h

/-- The entry named is eligible. -/
theorem named_eligible {e : Entry} (h : s.named l = some e) : Eligible s l e.flow e.unit e.due := by
  obtain ⟨hvalid, c, hc, hrun⟩ := named_valid s l h
  exact (mem_eligibles s l hvalid hc e).mp (foldl_earlier_least s hrun).1

end

/-- Settles O29: the order of R84 is that of the keys, and the run over the eligible entries keeps a least one. -/
theorem calendarNamesTheEarliest : Obligations.CalendarNamesTheEarliest := by
  intro s l
  refine ⟨fun e he => ⟨named_eligible s l he, fun f id due hne hf => ?_⟩, fun hnone f id due hf => ?_⟩
  · obtain ⟨hvalid, c, hc, hrun⟩ := named_valid s l he
    have hle := (foldl_earlier_least s hrun).2 ⟨f, id, due⟩ ((mem_eligibles s l hvalid hc _).mpr hf)
    exact lt_of_le_of_ne hle fun e => hne (key_injective s e).symm
  · have hf' := hf
    obtain ⟨hvalid, ⟨c, hc, -⟩, -⟩ := hf'
    rw [named_eq s l hvalid hc] at hnone
    have hmem : (⟨f, id, due⟩ : Entry) ∈ eligibles s l c := (mem_eligibles s l hvalid hc _).mpr hf
    rw [foldl_earlier_none s hnone] at hmem
    cases hmem

end Sys2Proof.Proofs.Calendar
end

section
/-! Every act keeps the cells: one lemma for each operation of the data path on what it takes from the Cell Store, and
where the units stand afterwards (R40, R64). -/

namespace Sys2Proof.Proofs.CellStore

open Sys2Proof Sys2Proof.Machine Sys2Proof.Proofs.Frames Sys2Proof.Proofs.Acts Sys2Proof.Proofs.Counters

variable (s : State)

/-! ## Discards of a flow -/

/-- A flow loses holds; after changes that move no unit these are released. -/
theorem cells_of_loss {u : State} (f : FlowId) (g : Flow → Flow) (ids : List Nat) (hstill : Still (s.modFlow f g) u)
    (hcount : ∀ i, (g (s.flow f)).holds.count i + ids.count i = (s.flow f).holds.count i)
    (hwait : ∀ i ∈ waiting (g (s.flow f)), i ∈ waiting (s.flow f)) : Cells s (u.releaseAll ids) := by
  rw [State.releaseAll_eq]
  refine cells_of_discard ids (by simp only [hstill.store]; rfl) (fun i => ?_) fun h i hi => ?_
  · have h1 := places_setFlow s f (g (s.flow f)) i
    have h2 := hcount i
    have h3 : u.places i = (s.setFlow f (g (s.flow f))).places i := hstill.places i
    change u.places i + ids.count i = s.places i
    omega
  · change i ∈ waiting (u.flow h) at hi
    rw [hstill.waiting, State.modFlow, State.flow_setFlow] at hi
    split at hi
    · subst_vars; exact hwait i hi
    · exact hi

/-- The units of a flow change their places and none is released. -/
theorem cells_of_move (f : FlowId) (g : Flow → Flow)
    (hcount : ∀ i, (g (s.flow f)).holds.count i = (s.flow f).holds.count i)
    (hwait : ∀ i ∈ waiting (g (s.flow f)), i ∈ waiting (s.flow f)) : Cells s (s.modFlow f g) := by
  have h := cells_of_loss s f g [] (Still.refl _) (fun i => by simpa using hcount i) hwait
  rwa [State.releaseAll_eq] at h

theorem setQueue_waiting (x : Flow) (l : Leg) (q : List Nat) : waiting (x.setQueue l q) = waiting x := by
  cases l <;> rfl

theorem setCredit_holds (x : Flow) (l : Leg) (n : Nat) : (x.setCredit l n).holds = x.holds := by
  cases l <;> rfl

/-- One leg queue of a flow in place of another. -/
theorem setQueue_count (x : Flow) (l : Leg) (q : List Nat) (i : Nat) :
    (x.setQueue l q).holds.count i + (x.queue l).count i = x.holds.count i + q.count i := by
  cases l with
  | a =>
    change ((x.slot.units ++ x.intakeQ ++ q ++ x.queueB).count i) + x.queueA.count i =
      (x.slot.units ++ x.intakeQ ++ x.queueA ++ x.queueB).count i + q.count i
    simp only [List.count_append]
    omega
  | b =>
    change ((x.slot.units ++ x.intakeQ ++ x.queueA ++ q).count i) + x.queueB.count i =
      (x.slot.units ++ x.intakeQ ++ x.queueA ++ x.queueB).count i + q.count i
    simp only [List.count_append]
    omega

theorem lagQueue_cells (f : FlowId) (l : Leg) : Cells s (s.lagQueue f l) := by
  refine cells_of_loss s f _ _ (countLag_still _ f l _) (fun i => ?_) fun i hi => by rwa [setQueue_waiting] at hi
  have := setQueue_count (s.flow f) l [] i
  simpa using this

theorem dropHead_count {x : Flow} {id : Nat} {rest : List Nat} (hq : x.intakeQ = id :: rest) (i : Nat) :
    x.dropHead.holds.count i + [id].count i = x.holds.count i := by
  simp only [Flow.holds, Flow.dropHead, hq, List.tail_cons, List.count_append, List.count_cons, List.count_nil]
  omega

theorem dropHead_waiting (x : Flow) (i : Nat) (hi : i ∈ waiting x.dropHead) : i ∈ waiting x := by
  unfold waiting at *
  rw [List.mem_append] at *
  exact hi.imp_right List.mem_of_mem_tail

theorem discardHead_cells (f : FlowId) {id : Nat} {rest : List Nat} (hq : (s.flow f).intakeQ = id :: rest)
    (g : FlowCounters → FlowCounters) : Cells s (s.discardHead f id g) :=
  cells_of_loss s f _ [id] (Still.refl _) (dropHead_count hq) fun i hi => dropHead_waiting _ i hi

theorem advance_still (f : FlowId) : Still s (s.modFlow f Flow.advance) := by
  have hread {β : Type} (r : Flow → β) (h : ∀ x p, r (Flow.moveTo x p) = r x) :
      r (s.flow f).advance = r (s.flow f) := by
    unfold Flow.advance
    split
    · exact h _ _
    · rfl
  exact modFlow_still s f _ (hread _ fun _ _ => rfl) (hread _ fun _ _ => rfl) (hread _ fun _ _ => rfl)
    (hread _ fun _ _ => rfl)

theorem lateHead_cells (f : FlowId) {id : Nat} {rest : List Nat} (hq : (s.flow f).intakeQ = id :: rest) :
    Cells s (s.lateHead f id) :=
  cells_of_loss s f Flow.dropHead [id]
    ((foldl_still (fun t l => countLate_still t f l) _ _).trans (advance_still _ f)) (dropHead_count hq)
    (dropHead_waiting _)

/-! ## Binding -/

/-- A unit is bound to legs still to come: `n` of its holders have no place yet. -/
def Bound (t : State) (id n : Nat) : Prop := Exact t.store (fun i => t.places i + if i = id then n else 0)

theorem appendUnit_whole (f : FlowId) (id : Nat) (l : Leg) (h : Whole s.store) :
    Whole (s.appendUnit f id l).store := by
  unfold State.appendUnit
  split
  · split
    · refine release_whole _ ?_
      rw [(countLag_still _ f l 1).store]
      exact h
    · exact h
  · exact h

/-- An append keeps the slots and the intake queues. -/
theorem appendUnit_waiting (f : FlowId) (id : Nat) (l : Leg) (g : FlowId) :
    waiting ((s.appendUnit f id l).flow g) = waiting (s.flow g) := by
  have hset (q : List Nat) : waiting ((s.modFlow f (fun x => x.setQueue l q)).flow g) = waiting (s.flow g) := by
    rw [State.modFlow, State.flow_setFlow]
    split
    · subst_vars; exact setQueue_waiting _ l q
    · rfl
  unfold State.appendUnit
  split
  · split
    · rw [State.flow_release, (countLag_still _ f l 1).waiting, hset]
    · exact hset _
  · exact hset _

/-- An append adds a place of the unit, and where the queue was full takes one from its oldest, which is released. -/
theorem appendUnit_change (f : FlowId) (id : Nat) (l : Leg) :
    ∃ ids : List Nat, (s.appendUnit f id l).store = ids.foldl Store.release s.store ∧
      ∀ i, (s.appendUnit f id l).places i + ids.count i = s.places i + [id].count i := by
  have hset (q : List Nat) (i : Nat) : (s.modFlow f (fun x => x.setQueue l q)).places i +
      ((s.flow f).queue l).count i = s.places i + q.count i := by
    have h1 := places_setFlow s f ((s.flow f).setQueue l q) i
    have h2 := setQueue_count (s.flow f) l q i
    change (s.setFlow f ((s.flow f).setQueue l q)).places i + ((s.flow f).queue l).count i = s.places i + q.count i
    omega
  unfold State.appendUnit
  split
  next old rest hq =>
    split
    · refine ⟨[old], by rw [State.release_store, (countLag_still _ f l 1).store]; rfl, fun i => ?_⟩
      have h1 := hset (rest ++ [id]) i
      have h2 := (countLag_still (s.modFlow f (fun x => x.setQueue l (rest ++ [id]))) f l 1).places i
      rw [hq] at h1
      change (((s.modFlow f (fun x => x.setQueue l (rest ++ [id]))).countLag f l 1)).places i + [old].count i = _
      rw [h2]
      simp only [List.count_append, List.count_cons, List.count_nil] at h1 ⊢
      omega
    · refine ⟨[], rfl, fun i => ?_⟩
      have h1 := hset (old :: rest ++ [id]) i
      rw [hq] at h1
      simp only [List.count_append, List.count_nil] at h1 ⊢
      omega
  next hq =>
    refine ⟨[], rfl, fun i => ?_⟩
    have h1 := hset [id] i
    rw [hq] at h1
    simp only [List.count_nil] at h1 ⊢
    omega

theorem appendUnit_bound (f : FlowId) (id : Nat) (l : Leg) (n : Nat) (h : Bound s id (n + 1)) :
    Bound (s.appendUnit f id l) id n := by
  obtain ⟨ids, hstore, hplaces⟩ := appendUnit_change s f id l
  unfold Bound
  rw [hstore]
  refine h.releaseAll fun i => ?_
  have := hplaces i
  by_cases e : i = id
  · subst e
    rw [List.count_singleton_self] at this
    simp only [if_true]
    omega
  · rw [List.count_singleton, if_neg (by simpa using Ne.symm e)] at this
    simp only [if_neg e]
    omega

/-- The appends of a whole list of legs. -/
theorem appendUnits_bound (f : FlowId) (id : Nat) (ls : List Leg) (h : Bound s id ls.length) :
    Bound (ls.foldl (fun t l => t.appendUnit f id l) s) id 0 := by
  induction ls generalizing s with
  | nil => exact h
  | cons l ls ih => exact ih _ (appendUnit_bound s f id l _ h)

theorem appendUnits_whole (f : FlowId) (id : Nat) (ls : List Leg) (h : Whole s.store) :
    Whole (ls.foldl (fun t l => t.appendUnit f id l) s).store := by
  induction ls generalizing s with
  | nil => exact h
  | cons l ls ih => exact ih _ (appendUnit_whole s f id l h)

theorem appendUnits_waiting (f : FlowId) (id : Nat) (ls : List Leg) (g : FlowId) :
    waiting ((ls.foldl (fun t l => t.appendUnit f id l) s).flow g) = waiting (s.flow g) :=
  StationTime.foldl_keeps (fun t : State => waiting (t.flow g)) (fun t l => appendUnit_waiting t f id l g) ls s

/-- The units let go by the appends, and the places gained. -/
theorem appendUnits_change (f : FlowId) (id : Nat) (ls : List Leg) :
    ∃ ids : List Nat, (ls.foldl (fun t l => t.appendUnit f id l) s).store = ids.foldl Store.release s.store ∧
      ∀ i, i ≠ id → (ls.foldl (fun t l => t.appendUnit f id l) s).places i ≤ s.places i := by
  induction ls generalizing s with
  | nil => exact ⟨[], rfl, fun _ _ => le_rfl⟩
  | cons l ls ih =>
    obtain ⟨ids, hstore, hplaces⟩ := appendUnit_change s f id l
    obtain ⟨ids', hstore', hplaces'⟩ := ih (s.appendUnit f id l)
    refine ⟨ids ++ ids', by rw [List.foldl_cons, hstore', hstore, List.foldl_append], fun i hi => ?_⟩
    have h1 := hplaces i
    have h2 := hplaces' i hi
    rw [List.count_singleton, if_neg (by simpa using hi.symm)] at h1
    rw [List.foldl_cons]
    omega

theorem bind_mem {st : Store} {id due n : Nat} {v : Bundle} (hv : v ∈ (st.bind id due n).units) :
    v ∈ st.units ∨ v.id = id := by
  have hmem : ∀ xs : List Bundle, v ∈ updateFirst (fun u => u.id == id)
      (fun u => { u with due := some due, holders := n }) xs → v ∈ xs ∨ v.id = id := by
    intro xs
    induction xs with
    | nil => exact fun h => absurd h (by simp [updateFirst])
    | cons x xs ih =>
      intro h
      simp only [updateFirst] at h
      split at h
      next hx =>
        rcases List.mem_cons.mp h with rfl | h
        · exact .inr (by simpa using hx)
        · exact .inl (List.mem_cons_of_mem _ h)
      · rcases List.mem_cons.mp h with rfl | h
        · exact .inl List.mem_cons_self
        · exact (ih h).imp_left (List.mem_cons_of_mem _)
  exact hmem _ hv

theorem ids_bind (st : Store) (id due n : Nat) :
    (st.bind id due n).units.map Bundle.id = st.units.map Bundle.id := map_updateFirst _ _ (by intro; rfl) _

/-- A bound unit has the holders that binding gives it. -/
theorem exact_bind {st : Store} {held held' : Nat → Nat} {id due n : Nat} (h : Exact st held) (hn : 1 ≤ n)
    (hid : held' id = n) (hmem : ∃ u ∈ st.units, u.id = id) (hne : ∀ i, i ≠ id → held' i = held i) :
    Exact (st.bind id due n) held' := by
  refine ⟨by rw [ids_bind]; exact h.nodup, fun v hv => ?_, fun i hi => ?_⟩
  · rw [Store.bind, updateFirst_eq_map h.nodup] at hv
    obtain ⟨w, hw, rfl⟩ := List.mem_map.mp hv
    obtain ⟨hlt, hpos, hcount⟩ := h.units w hw
    split
    next e => exact ⟨hlt, hn, by simp only [e, hid]⟩
    next e => exact ⟨hlt, hpos, by rw [hne _ e]; exact hcount⟩
  · have hold : ∃ u ∈ st.units, u.id = i := by
      by_cases e : i = id
      · exact e ▸ hmem
      · exact h.exist i (by rwa [← hne i e])
    obtain ⟨u, hu, rfl⟩ := hold
    have hmem : u.id ∈ (st.bind id due n).units.map Bundle.id := by
      rw [ids_bind]
      exact List.mem_map_of_mem hu
    obtain ⟨v, hv, e⟩ := List.mem_map.mp hmem
    exact ⟨v, hv, e⟩

/-- The head before its appends: out of the intake queue, its holders those of the legs to come. -/
def unqueued (f : FlowId) (id due n : Nat) : State :=
  { s with store := s.store.bind id due n }.modFlow f Flow.dropHead

theorem unqueued_places (f : FlowId) {id : Nat} (due n : Nat) {rest : List Nat}
    (hq : (s.flow f).intakeQ = id :: rest) (i : Nat) :
    (unqueued s f id due n).places i + [id].count i = s.places i := by
  have h1 := places_setFlow { s with store := s.store.bind id due n } f (s.flow f).dropHead i
  have h2 := dropHead_count hq i
  change (unqueued s f id due n).places i + (s.flow f).holds.count i =
    s.places i + (s.flow f).dropHead.holds.count i at h1
  omega

theorem unqueued_waiting (f : FlowId) (id due n : Nat) (g : FlowId) (i : Nat)
    (hi : i ∈ waiting ((unqueued s f id due n).flow g)) : i ∈ waiting (s.flow g) := by
  rw [unqueued, State.modFlow, State.flow_setFlow] at hi
  split at hi
  · subst_vars; exact dropHead_waiting _ i hi
  · exact hi

theorem unqueued_bound (f : FlowId) {id : Nat} (due : Nat) {n : Nat} (hn : 1 ≤ n) {rest : List Nat}
    (hq : (s.flow f).intakeQ = id :: rest) (hs : s.HoldersExact) : Bound (unqueued s f id due n) id n := by
  have hexact := ((holdersExact_iff s).mp hs).1
  have hwait : id ∈ waiting (s.flow f) := by simp [waiting, hq]
  have hone : s.places id = 1 := ((holdersExact_iff s).mp hs).2 f id hwait
  have hplaces := unqueued_places s f due n hq
  refine exact_bind hexact hn ?_ (hexact.exist id hone.ge) fun i hi => ?_
  · have := hplaces id
    rw [List.count_singleton_self] at this
    simp only [if_true]
    omega
  · have := hplaces i
    rw [List.count_singleton, if_neg (by simpa using hi.symm)] at this
    simp only [if_neg hi]
    omega

theorem bindHead_eq (f : FlowId) (id due : Nat) : s.bindHead f id due =
    ((s.flow f).params.legs.list.foldl (fun t l => t.appendUnit f id l)
      (unqueued s f id due (s.flow f).params.legs.list.length)).modFlow f Flow.advance := rfl

theorem bindHead_cells (f : FlowId) {id : Nat} (due : Nat) {rest : List Nat}
    (hq : (s.flow f).intakeQ = id :: rest) (hlegs : 1 ≤ (s.flow f).params.legs.list.length) :
    Cells s (s.bindHead f id due) := by
  rw [bindHead_eq]
  refine Cells.trans ?_ (advance_still _ f).cells
  have hidwait : id ∈ waiting (s.flow f) := by simp [waiting, hq]
  have hwaits (g : FlowId) (i : Nat) (hi : i ∈ waiting (((s.flow f).params.legs.list.foldl
      (fun t l => t.appendUnit f id l) (unqueued s f id due (s.flow f).params.legs.list.length)).flow g)) :
      i ∈ waiting ((unqueued s f id due (s.flow f).params.legs.list.length).flow g) := by
    rwa [appendUnits_waiting] at hi
  obtain ⟨ids, hstore, hle⟩ := appendUnits_change (unqueued s f id due (s.flow f).params.legs.list.length) f id
    (s.flow f).params.legs.list
  refine ⟨fun h => ?_, fun h => ?_, fun h i v hv => ?_, fun g i hi => ?_, ?_⟩
  · exact appendUnits_whole _ f id _ (bind_whole (st := s.store) id due _ h)
  · have hbound := appendUnits_bound _ f id _ (unqueued_bound s f due hlegs hq h)
    rw [holdersExact_iff] at h ⊢
    refine ⟨hbound.congr fun i => by simp, fun g i hi => ?_⟩
    have hold := hwaits g i hi
    have hone := h.2 g i (unqueued_waiting s f id due _ g i hold)
    have hplaces := unqueued_places s f due (s.flow f).params.legs.list.length hq i
    have hpos := places_of_waiting hold
    have hi1 : i ≠ id := by
      rintro rfl
      rw [List.count_singleton_self] at hplaces
      omega
    have := hle i hi1
    have := places_of_waiting hi
    omega
  · rw [hstore] at hv
    have hnodup : ((unqueued s f id due (s.flow f).params.legs.list.length).store.units.map Bundle.id).Nodup := by
      change ((s.store.bind id due _).units.map Bundle.id).Nodup
      rw [ids_bind]
      exact h.1
    obtain ⟨u, hu, hal⟩ := foldl_release_find hnodup ids hv
    obtain ⟨humem, huid⟩ := Store.find_some hu
    obtain hold | hbound := bind_mem (st := s.store) humem
    · exact .inl ⟨u, huid ▸ find_of_mem h.1 hold, hal⟩
    · exact .inr (.inl ⟨f, by rwa [← huid, hbound]⟩)
  · exact .inl ⟨g, unqueued_waiting s f id due _ g i (hwaits g i hi)⟩
  · rw [hstore, foldl_release_nextId]
    exact le_rfl

/-! ## The examination of a head -/

theorem placeHead_cells (f : FlowId) {id : Nat} (now : Nat) {rest : List Nat}
    (hq : (s.flow f).intakeQ = id :: rest) (hlegs : 1 ≤ (s.flow f).params.legs.list.length) :
    Cells s (s.placeHead f id now) := by
  unfold State.placeHead
  split
  · exact Cells.refl s
  · simp only
    split
    · exact lateHead_cells s f hq
    · exact bindHead_cells s f _ hq hlegs

theorem lockFlow_still (f : FlowId) (now : Nat) : Still s (s.lockFlow f now) :=
  (modFlow_still s f _ rfl rfl rfl rfl).trans (emit_still _ _)

theorem shortFrame_still (f : FlowId) (p : Position) : Still s (s.shortFrame f p) :=
  modFlow_still s f _ rfl rfl rfl rfl

theorem setQueue_intakeQ (x : Flow) (l : Leg) (q : List Nat) : (x.setQueue l q).intakeQ = x.intakeQ := by
  cases l <;> rfl

theorem lagQueue_intakeQ (f : FlowId) (l : Leg) (g : FlowId) :
    ((s.lagQueue f l).flow g).intakeQ = (s.flow g).intakeQ := by
  unfold State.lagQueue
  simp only
  rw [State.flow_releaseAll, (countLag_still _ f l _).intakeQ, State.modFlow, State.flow_setFlow]
  split
  · subst_vars; exact setQueue_intakeQ _ l _
  · rfl

theorem relockFlow_intakeQ (f : FlowId) (now : Nat) (p : Position) (g : FlowId) :
    ((s.relockFlow f now p).flow g).intakeQ = (s.flow g).intakeQ := by
  unfold State.relockFlow
  simp only
  rw [State.flow_emit, StationTime.foldl_keeps (fun t : State => (t.flow g).intakeQ)
    (fun t l => lagQueue_intakeQ t f l g)]
  exact (modFlow_still s f (fun x => { x.noCredit with
    lock := _, counters := _ }) rfl rfl rfl rfl).intakeQ g

theorem relockFlow_cells (f : FlowId) (now : Nat) (p : Position) : Cells s (s.relockFlow f now p) :=
  (Cells.trans (modFlow_still s f _ rfl rfl rfl rfl).cells (foldl_cells (fun t l => lagQueue_cells t f l) _ _)).trans
    (emit_still _ _).cells

/-- The legs of a flow stay in a data step. -/
theorem legs_of_data {t : State} (h : DataStep s t) (f : FlowId) (hlegs : 1 ≤ (s.flow f).params.legs.list.length) :
    1 ≤ (t.flow f).params.legs.list.length := by
  rwa [(h.flows f).params]

section
variable {s} {f : FlowId} {id : Nat} {rest : List Nat} (hq : (s.flow f).intakeQ = id :: rest)
  (hlegs : 1 ≤ (s.flow f).params.legs.list.length)
include hq hlegs

theorem relocked_cells (now : Nat) (p : Position) : Cells s ((s.relockFlow f now p).placeHead f id now) :=
  (relockFlow_cells s f now p).trans (placeHead_cells _ f now (by rw [relockFlow_intakeQ]; exact hq)
    (legs_of_data s (relockFlow_data s f now p) f hlegs))

theorem frameHead_cells (now : Nat) : Cells s (s.frameHead f id now) := by
  unfold State.frameHead
  split
  · exact Cells.refl s
  · split
    · exact relocked_cells hq hlegs now _
    · exact placeHead_cells s f now hq hlegs

theorem lockedHead_cells (fs : Bool) (now : Nat) : Cells s (s.lockedHead f id fs now) := by
  unfold State.lockedHead
  split
  · unfold State.essenceHead
    split
    · exact Cells.refl s
    · split
      · exact relocked_cells hq hlegs now _
      · exact placeHead_cells s f now hq hlegs
  · unfold State.rasterHead
    split
    · exact Cells.refl s
    · split_ifs
      · refine (shortFrame_still s f _).cells.trans (frameHead_cells (rest := rest) ?_ ?_ now)
        · rw [(shortFrame_still s f _).intakeQ]; exact hq
        · exact legs_of_data s (shortFrame_data s f _) f hlegs
      · exact frameHead_cells hq hlegs now
      · exact discardHead_cells s f hq _
      · exact placeHead_cells s f now hq hlegs

theorem examineHead_cells (fs : Bool) (now : Nat) : Cells s (s.examineHead f id fs now) := by
  unfold State.examineHead
  split
  · unfold State.unlockedHead
    split
    · refine (lockFlow_still s f now).cells.trans (lockedHead_cells (rest := rest) ?_ ?_ fs now)
      · rw [(lockFlow_still s f now).intakeQ]; exact hq
      · exact legs_of_data s (lockFlow_data s f now) f hlegs
    · exact discardHead_cells s f hq _
  · exact lockedHead_cells hq hlegs fs now

end

theorem bindable_legs {x : Flow} (h : x.bindable = true) : 1 ≤ x.params.legs.list.length := by
  rw [Flow.bindable, Bool.and_eq_true, List.any_eq_true] at h
  obtain ⟨-, l, hl, -⟩ := h
  exact List.length_pos_of_mem hl

/-! ## The Release Calendar -/

theorem stepFlow_cells (f : FlowId) : Cells s (s.stepFlow f) := by
  refine cells_of_loss s f _ _ (Still.refl _) (fun i => ?_) fun i hi => ?_
  · unfold Flow.stepped Flow.stepHolds
    split
    next h => simp [Flow.noCredit, Flow.holds]
    next h =>
      simp only [Flow.noCredit, Flow.count, Flow.holds, List.count_append, List.append_nil]
      omega
  · unfold Flow.stepped at hi
    split at hi <;> exact hi

theorem timeStep_cells (x : Nat) (code : TimeCode) : Cells s (s.timeStep x code) :=
  ((setTime_still s _).cells.trans (foldl_cells stepFlow_cells _ _)).trans (emit_still _ _).cells

theorem credited_still (f : FlowId) (lo hi : Nat) : Still s (s.modFlow f (fun x => x.credited lo hi)) := by
  have hread {β : Type} (r : Flow → β) (h : ∀ x l c, r (Flow.setCredit x l c) = r x) (x : Flow) :
      r (x.credited lo hi) = r x := by
    unfold Flow.credited
    split
    · rfl
    · split
      · exact StationTime.foldl_keeps r (fun y l => h y l _) _ x
      · rfl
  exact modFlow_still s f _ (hread _ (fun _ l _ => by cases l <;> rfl) _) (hread _ (fun _ l _ => by cases l <;> rfl) _)
    (hread _ (fun _ l _ => by cases l <;> rfl) _) (hread _ (fun _ l _ => by cases l <;> rfl) _)

theorem validReading_cells (x : Nat) : Cells s (s.validReading x) := by
  unfold State.validReading
  split
  · split
    · exact timeStep_cells s x _
    · unfold State.judgeReading
      split_ifs
      · exact timeStep_cells s x _
      · exact (setTime_still s _).cells
      · exact timeStep_cells s x _
      · exact (setTime_still s _).cells
      · exact ((foldl_still (fun t f => credited_still t f _ _) _ s).trans (setTime_still _ _)).cells
  · exact (setTime_still s _).cells

theorem invalidReading_still : Still s s.invalidReading := by
  unfold State.invalidReading
  split
  · exact (setTime_still s _).trans (emit_still _ _)
  · exact Still.refl s

theorem signalled_unit (x : EgressLeg) : x.signalled.hand.map Hand.unit = x.hand.map Hand.unit := by
  unfold EgressLeg.signalled
  split
  next h hh =>
    split
    · rw [hh]; rfl
    · rfl
  · rfl

theorem clockTick_still : Still s s.clockTick := by
  have hleg (x : EgressLeg) (i : Nat) : handCount x.signalled i = handCount x i := by
    unfold handCount
    rw [signalled_unit]
  refine ⟨rfl, fun _ => rfl, fun _ => rfl, fun i => ?_⟩
  rw [places_eq, places_eq]
  change _ + (handCount s.legA.signalled i + handCount s.legB.signalled i) = _
  rw [hleg, hleg]
  rfl

/-! ## Serving -/

section
variable {s} {l : Leg} {e : Entry} {rest : List Nat} (hq : (s.flow e.flow).queue l = e.unit :: rest)
include hq

theorem dropOldest_count (i : Nat) :
    ((s.flow e.flow).dropOldest l).holds.count i + [e.unit].count i = (s.flow e.flow).holds.count i := by
  have := setQueue_count (s.flow e.flow) l ((s.flow e.flow).queue l).tail i
  rw [hq] at this
  simp only [Flow.dropOldest, hq, List.tail_cons, List.count_cons, List.count_nil] at this ⊢
  omega

theorem lateAtOffer_cells : Cells s (s.lateAtOffer l e) := by
  have hloss : Cells s (((s.modFlow e.flow (fun x => x.dropOldest l)).countLate e.flow l).releaseAll [e.unit]) :=
    cells_of_loss s e.flow _ [e.unit] (countLate_still _ e.flow l) (dropOldest_count hq) fun i hi => by
      rwa [Flow.dropOldest, setQueue_waiting] at hi
  exact hloss.trans (modLegSettled_still _ l id rfl).cells

theorem takeOldest_count (i : Nat) :
    ((s.flow e.flow).takeOldest l).holds.count i + [e.unit].count i = (s.flow e.flow).holds.count i := by
  rw [Flow.takeOldest, setCredit_holds]
  exact dropOldest_count hq i

omit hq in
theorem takeOldest_waiting (x : Flow) : waiting (x.takeOldest l) = waiting x := by
  cases l <;> rfl

theorem sinkUnit_cells : Cells s (s.sinkUnit l e) :=
  Cells.trans (cells_of_loss s e.flow _ [e.unit] (Still.refl _) (takeOldest_count hq) fun i hi => by
    rwa [show waiting (Flow.countOn ((s.flow e.flow).takeOldest l) l _) = _ from takeOldest_waiting _] at hi)
    (modLegSettled_still _ l _ rfl).cells

/-- The unit moves from the leg queue into the hand. -/
theorem offerUnit_cells (hhand : (s.leg l).hand = none) : Cells s (s.offerUnit l e) := by
  refine cells_of_discard [] ?_ (fun i => ?_) fun f i hi => ?_
  · simp [State.offerUnit]
  · have h1 := places_setFlow s e.flow ((s.flow e.flow).takeOldest l) i
    have h2 := takeOldest_count hq i
    have hleg : (s.modFlow e.flow (fun x => x.takeOldest l)).leg l = s.leg l := s.leg_setFlow _ _ l
    obtain ⟨y, hoffer, hheld⟩ : ∃ y, s.offerUnit l e = (s.modFlow e.flow (fun x => x.takeOldest l)).setLeg l y ∧
        handCount y i = [e.unit].count i := by
      refine ⟨_, by rw [State.offerUnit, State.modLegSettled_eq], ?_⟩
      simp [handCount, EgressLeg.settle, List.count_singleton]
    have h3 := places_setLeg (s.modFlow e.flow (fun x => x.takeOldest l)) l y i
    have hempty : handCount (s.leg l) i = 0 := by simp [handCount, hhand]
    rw [hleg, hempty, hheld] at h3
    rw [hoffer, List.count_nil]
    change (s.modFlow e.flow (fun x => x.takeOldest l)).places i + _ = _ at h1
    omega
  · rw [State.offerUnit, State.modLegSettled, State.modLeg, State.flow_setLeg, State.modFlow, State.flow_setFlow] at hi
    split at hi
    · subst_vars; rwa [takeOldest_waiting] at hi
    · exact hi

theorem serve_cells (hhand : (s.leg l).hand = none) (now : Nat) : Cells s (s.serve l e now) := by
  unfold State.serve
  split
  · exact lateAtOffer_cells hq
  · split
    · exact offerUnit_cells hq hhand
    · exact sinkUnit_cells hq
    · exact sinkUnit_cells hq
    · exact Cells.refl s

end

/-! ## Drains -/

theorem flushFlow_cells (f : FlowId) : Cells s (s.flushFlow f) :=
  cells_of_loss s f _ _ (Still.refl _) (fun i => by simp [Flow.holds, Slot.units])
    fun i hi => by simp [waiting, Slot.units] at hi

theorem startDrain_cells (f : FlowId) : Cells s (s.startDrain f) := by
  refine cells_of_loss s f _ _ (Still.refl _) (fun i => ?_) fun i hi => ?_
  · simp only [Flow.holds, Slot.units, Flow.count, List.count_append, List.nil_append]
    omega
  · simp only [waiting, Slot.units, Flow.count, List.nil_append] at hi
    exact List.mem_append_right _ hi

/-! ## Intake -/

/-- The run in the slot ends and its hold is released. -/
theorem breakRun_cells (f : FlowId) : Cells s (s.breakRun f) := by
  unfold State.breakRun
  split
  next u hslot =>
    refine cells_of_loss s f _ [u] (Still.refl _) (fun i => ?_) fun i hi => ?_
    · simp only [Flow.holds, hslot, Slot.units, Flow.count, List.count_append, List.nil_append]
      omega
    · simp only [waiting, Slot.units, Flow.count, List.nil_append] at hi
      exact List.mem_append_right _ hi
  next hslot =>
    refine cells_of_move s f _ (fun i => ?_) fun i hi => ?_
    · simp [Flow.holds, hslot, Slot.units]
    · simpa [waiting, hslot, Slot.units] using hi
  · exact Cells.refl s

theorem start_exact {st : Store} {held held' : Nat → Nat} (f : FlowId) (fs : Bool) (bytes : List Byte)
    (h : Exact st held) (hd : ∀ i, held' i = held i + [st.nextId].count i) : Exact (st.start f fs bytes) held' := by
  have hfresh {u : Bundle} (hu : u ∈ st.units) : u.id ≠ st.nextId := (h.units u hu).1.ne
  have hnew : held st.nextId = 0 := by
    by_contra hpos
    obtain ⟨u, hu, e⟩ := h.exist st.nextId (by omega)
    exact hfresh hu e
  have hcount (i : Nat) : [st.nextId].count i = if i = st.nextId then 1 else 0 := by
    by_cases e : i = st.nextId
    · rw [e, List.count_singleton_self, if_pos rfl]
    · rw [List.count_singleton, if_neg (by simpa using Ne.symm e), if_neg e]
  refine ⟨?_, fun u hu => ?_, fun i hi => ?_⟩
  · simp only [Store.start, List.map_append, List.map_cons, List.map_nil]
    refine List.nodup_append.mpr ⟨h.nodup, List.nodup_singleton _, fun a ha b hb => ?_⟩
    obtain ⟨u, hu, rfl⟩ := List.mem_map.mp ha
    rw [List.mem_singleton] at hb
    exact hb ▸ hfresh hu
  · simp only [Store.start, List.mem_append, List.mem_singleton] at hu ⊢
    obtain hu | rfl := hu
    · obtain ⟨hlt, hpos, hc⟩ := h.units u hu
      refine ⟨by omega, hpos, ?_⟩
      rw [hd, hcount, if_neg (hfresh hu)]
      exact hc
    · refine ⟨by simp, le_rfl, ?_⟩
      simp only
      rw [hd, hcount, if_pos rfl, hnew]
  · rw [hd, hcount] at hi
    split at hi
    · subst_vars
      exact ⟨_, by simp only [Store.start, List.mem_append, List.mem_singleton]; exact .inr rfl, rfl⟩
    · obtain ⟨u, hu, e⟩ := h.exist i hi
      exact ⟨u, by simp only [Store.start, List.mem_append]; exact .inl hu, e⟩

/-- A packet starts a unit in its flow's slot or intake queue. -/
theorem startUnit_cells (f : FlowId) (p : Packet) (g : Flow → Nat → Flow)
    (hc : cellsOf p.bytes ≤ s.store.freeCells)
    (hg : ∀ i, (g (s.flow f) s.store.nextId).holds.count i = (s.flow f).holds.count i + [s.store.nextId].count i)
    (hwait : ∀ i ∈ waiting (g (s.flow f) s.store.nextId), i ∈ waiting (s.flow f) ∨ i = s.store.nextId) :
    Cells s (s.startUnit f p g) := by
  have hplaces (i : Nat) : (s.startUnit f p g).places i = s.places i + [s.store.nextId].count i := by
    have h1 := places_setFlow { s with store := s.store.start f p.frameStart p.bytes } f
      (g (s.flow f) s.store.nextId) i
    have h2 := hg i
    change (s.startUnit f p g).places i + (s.flow f).holds.count i =
      s.places i + (g (s.flow f) s.store.nextId).holds.count i at h1
    omega
  have hwaits (h : FlowId) (i : Nat) (hi : i ∈ waiting ((s.startUnit f p g).flow h)) :
      i ∈ waiting (s.flow h) ∨ i = s.store.nextId := by
    rw [State.startUnit, State.modFlow, State.flow_setFlow] at hi
    split at hi
    · subst_vars; exact hwait i hi
    · exact .inl hi
  refine ⟨fun h => start_whole (st := s.store) f _ _ hc h, fun h => ?_, fun h i v hv => ?_, fun k i hi => ?_,
    Nat.le_succ _⟩
  · have hnew : s.places s.store.nextId = 0 := by
      by_contra hpos
      obtain ⟨u, hu, e⟩ := ((holdersExact_iff s).mp h).1.exist s.store.nextId (by omega)
      exact (((holdersExact_iff s).mp h).1.units u hu).1.ne e
    rw [holdersExact_iff] at h ⊢
    refine ⟨start_exact f _ _ h.1 hplaces, fun k i hi => ?_⟩
    rw [hplaces]
    obtain hold | rfl := hwaits k i hi
    · have hone := h.2 k i hold
      have hne : i ≠ s.store.nextId := by rintro rfl; omega
      rw [hone, List.count_singleton, if_neg (by simpa using hne.symm)]
    · rw [hnew, List.count_singleton_self]
  · obtain ⟨hmem, hid⟩ := Store.find_some hv
    change v ∈ (s.store.start f p.frameStart p.bytes).units at hmem
    simp only [Store.start, List.mem_append, List.mem_singleton] at hmem
    obtain hmem | rfl := hmem
    · exact .inl ⟨v, hid ▸ find_of_mem h.1 hmem, rfl⟩
    · exact .inr (.inr hid.le)
  · exact (hwaits k i hi).imp (fun h => ⟨k, h⟩) (fun e => e.ge)

theorem singleUnit_cells (f : FlowId) (p : Packet) (hc : cellsOf p.bytes ≤ s.store.freeCells) :
    Cells s (s.singleUnit f p) := by
  unfold State.singleUnit
  split
  · refine startUnit_cells s f p _ hc (fun i => ?_) fun i hi => ?_
    · simp only [Flow.holds, List.count_append]
      omega
    · simp only [waiting, List.mem_append, List.mem_singleton] at hi ⊢
      tauto
  · exact (modFlow_still s f _ rfl rfl rfl rfl).cells

/-- RUN_OPEN at a slot that holds no run. -/
theorem openRun_cells (f : FlowId) (p : Packet) (closes : Bool) (hslot : (s.flow f).slot = .empty)
    (hc : cellsOf p.bytes ≤ s.store.freeCells) : Cells s (s.openRun f p closes) := by
  unfold State.openRun
  split
  · refine startUnit_cells s f p _ hc (fun i => ?_) fun i hi => ?_
    · cases closes <;>
        simp only [Flow.holds, hslot, Slot.units, List.count_append, List.count_nil, if_true, if_false,
          Bool.false_eq_true] <;> omega
    · cases closes <;>
        simp only [waiting, hslot, Slot.units, List.mem_append, List.mem_singleton, List.nil_append, if_true, if_false,
          Bool.false_eq_true] at hi ⊢ <;> tauto
  · refine cells_of_move s f _ (fun i => ?_) fun i hi => ?_
    · cases closes <;> simp [Flow.holds, Flow.overIntake, Flow.count, hslot, Slot.units]
    · cases closes <;> simpa [waiting, Flow.overIntake, Flow.count, hslot, Slot.units] using hi

/-- A unit joined by a packet is open still, and the others stay. -/
theorem join_mem {st : Store} (h : (st.units.map Bundle.id).Nodup) {i : Nat} {bytes : List Byte} {v : Bundle}
    (hv : v ∈ (st.join i bytes).units) : v ∈ st.units ∨ v.id = i := by
  unfold Store.join at hv
  split at hv
  · exact .inl hv
  · rw [updateFirst_eq_map h] at hv
    obtain ⟨w, hw, rfl⟩ := List.mem_map.mp hv
    split
    next e => exact .inr e
    · exact .inl hw

theorem join_exact {st : Store} {held : Nat → Nat} (h : Exact st held) (i : Nat) (bytes : List Byte) :
    Exact (st.join i bytes) held := by
  unfold Store.join
  split
  · exact h
  · refine ⟨?_, fun v hv => ?_, fun j hj => ?_⟩
    · rw [map_updateFirst]
      · exact h.nodup
      · exact fun _ => rfl
    · rw [updateFirst_eq_map h.nodup] at hv
      obtain ⟨w, hw, rfl⟩ := List.mem_map.mp hv
      split <;> exact h.units w hw
    · obtain ⟨u, hu, rfl⟩ := h.exist j hj
      have hmem : u.id ∈ (updateFirst (fun v => v.id == i) (fun v => { v with packets := v.packets ++ [bytes] })
          st.units).map Bundle.id := by
        rw [map_updateFirst]
        · exact List.mem_map_of_mem hu
        · exact fun _ => rfl
      obtain ⟨v, hv, e⟩ := List.mem_map.mp hmem
      exact ⟨v, hv, e⟩

theorem join_nextId (st : Store) (i : Nat) (bytes : List Byte) : (st.join i bytes).nextId = st.nextId := by
  unfold Store.join
  split <;> rfl

theorem joined_cells (f : FlowId) (i : Nat) (bytes : List Byte) (hslot : (s.flow f).slot = .opened i)
    (hc : cellsOf bytes ≤ s.store.freeCells) : Cells s { s with store := s.store.join i bytes } := by
  refine ⟨fun h => join_whole (st := s.store) i bytes hc h, fun h => ?_, fun h j v hv => ?_, fun g j hj => .inl ⟨g, hj⟩,
    (join_nextId _ _ _).ge⟩
  · rw [holdersExact_iff] at h ⊢
    exact ⟨join_exact h.1 i bytes, h.2⟩
  · obtain ⟨hmem, hid⟩ := Store.find_some hv
    obtain hold | e := join_mem h.1 hmem
    · exact .inl ⟨v, hid ▸ find_of_mem h.1 hold, rfl⟩
    · exact .inr (.inl ⟨f, by simp [waiting, hslot, Slot.units, ← hid, e]⟩)

theorem joinRun_cells (f : FlowId) (p : Packet) (closes : Bool) (id : Nat) (hslot : (s.flow f).slot = .opened id)
    (hc : cellsOf p.bytes ≤ s.store.freeCells) : Cells s (s.joinRun f p closes id) := by
  have hjoin := joined_cells s f id p.bytes hslot hc
  unfold State.joinRun
  simp only
  split
  · split
    · refine hjoin.trans (cells_of_move _ f _ (fun i => ?_) fun i hi => ?_)
      · change (Slot.empty.units ++ ((s.flow f).intakeQ ++ [id]) ++ (s.flow f).queueA ++
          (s.flow f).queueB).count i = (s.flow f).holds.count i
        simp only [Flow.holds, hslot, Slot.units, List.count_append, List.count_nil]
        omega
      · change i ∈ Slot.empty.units ++ ((s.flow f).intakeQ ++ [id]) at hi
        change i ∈ (s.flow f).slot.units ++ (s.flow f).intakeQ
        simp only [hslot, Slot.units, List.mem_append, List.mem_singleton, List.nil_append] at hi ⊢
        tauto
    · exact hjoin
  · exact breakRun_cells s f

theorem breakRun_slot (f : FlowId) : ((s.breakRun f).flow f).slot = .empty := by
  unfold State.breakRun
  split
  · simp [State.modFlow]
  · simp [State.modFlow]
  next h => exact h

theorem breakRun_freeCells (f : FlowId) : s.store.freeCells ≤ (s.breakRun f).store.freeCells := by
  unfold State.breakRun
  split
  · exact (s.store.release_pool _).1
  · exact le_rfl
  · exact le_rfl

theorem acceptPacket_cells (f : FlowId) (p : Packet) (hc : cellsOf p.bytes ≤ s.store.freeCells) :
    Cells s (s.acceptPacket f p) := by
  unfold State.acceptPacket
  simp only
  split
  · exact (breakRun_cells s f).trans
      (openRun_cells _ f p _ (breakRun_slot s f) (hc.trans (breakRun_freeCells s f)))
  · split
    · exact singleUnit_cells s f p hc
    next hslot => exact joinRun_cells s f p _ _ hslot hc
    next n hslot =>
      refine cells_of_move s f _ (fun i => ?_) fun i hi => ?_
      · simp only [Flow.holds, Flow.overIntake, Flow.count, hslot]
        split <;> simp [Slot.units]
      · simp only [waiting, Flow.overIntake, Flow.count, hslot] at hi ⊢
        split at hi <;> simpa [Slot.units] using hi

/-- A packet within the longest length takes no more than the 8 cells that intake-ready promises. -/
theorem cellsOf_le {bytes : List Byte} (h : bytes.length ≤ 2048) : cellsOf bytes ≤ 8 := by
  unfold cellsOf divUp Config.cellBytes
  omega

theorem judgePacket_cells (flow : Byte) (p : Packet) (hready : s.intakeReady = true) :
    Cells s (s.judgePacket flow p) := by
  have hcounter (st : Store) (hunits : st.units = s.store.units) (hfree : st.freeCells = s.store.freeCells)
      (hnext : st.nextId = s.store.nextId) : Cells s { s with store := st } := by
    have hfind (i : Nat) : st.find i = s.store.find i := by rw [Store.find, hunits]; rfl
    refine ⟨fun h => ?_, fun h => ?_, fun h i v hv => .inl ⟨v, by rw [← hfind]; exact hv, rfl⟩,
      fun f i hi => .inl ⟨f, hi⟩, hnext.ge⟩
    · unfold State.PoolWhole at h ⊢
      rw [← h]
      simp only [hunits, hfree]
    · rw [holdersExact_iff] at h ⊢
      obtain ⟨⟨h1, h2, h3⟩, h4⟩ := h
      exact ⟨⟨by rw [hunits]; exact h1, by rw [hunits, hnext]; exact h2, by rw [hunits]; exact h3⟩, h4⟩
  unfold State.judgePacket
  split
  · exact hcounter _ rfl rfl rfl
  next hlen =>
    have hle : p.bytes.length ≤ 2048 := by
      simp only [within, Config.minPacket, Config.maxPacket, Bool.not_eq_true', Bool.not_eq_false,
        Bool.and_eq_true] at hlen
      exact of_decide_eq_true hlen.2
    have hc : cellsOf p.bytes ≤ s.store.freeCells := (cellsOf_le hle).trans ((s.intakeReady_iff).mp hready).2
    split
    · exact hcounter _ rfl rfl rfl
    · split_ifs
      · exact hcounter _ rfl rfl rfl
      · exact (breakRun_cells s _).trans (modFlow_still _ _ _ rfl rfl rfl rfl).cells
      · exact acceptPacket_cells s _ p hc

/-! ## Answers -/

theorem countFor_still (h : Hand) (u : Bundle) (l : Leg) (g : LegCounts → LegCounts) :
    Still s (s.countFor h u l g) := by
  unfold State.countFor
  split
  · exact Still.refl s
  · exact countOn_still s _ l g

theorem finishUnit_cells (l : Leg) {h : Hand} (hh : (s.leg l).hand = some h) : Cells s (s.finishUnit l h.unit) := by
  refine cells_of_discard [h.unit] (by simp [State.finishUnit]) (fun i => ?_) fun f i hi => ?_
  · obtain ⟨y, hfinish, hempty⟩ : ∃ y, s.finishUnit l h.unit = (s.release h.unit).setLeg l y ∧ handCount y i = 0 := by
      refine ⟨_, by rw [State.finishUnit, State.modLegSettled_eq], ?_⟩
      simp [handCount, EgressLeg.settle]
    have h1 := places_setLeg (s.release h.unit) l y i
    have hheld : handCount (s.leg l) i = [h.unit].count i := by simp [handCount, hh, List.count_singleton]
    have hrelease : (s.release h.unit).places i = s.places i := rfl
    rw [State.leg_release, hheld, hempty, hrelease] at h1
    rw [hfinish]
    omega
  · rwa [State.finishUnit, State.modLegSettled, State.modLeg, State.flow_setLeg] at hi

theorem endUnit_cells (l : Leg) {h : Hand} (u : Bundle) (hh : (s.leg l).hand = some h) :
    Cells s (s.endUnit l h u) :=
  ((countFor_still s h u l _).trans (modLeg_still _ l _ rfl)).cells.trans (finishUnit_cells _ l (by
    rw [Requests.hand_count, Requests.leg_countFor]; exact hh))

theorem withHand_still (l : Leg) {h h' : Hand} (hh : (s.leg l).hand = some h) (hu : h'.unit = h.unit) :
    Still s (s.modLeg l (fun x => x.withHand h')) :=
  modLeg_still s l _ (by rw [hh]; exact congrArg some hu)

theorem takePacket_cells (l : Leg) {h : Hand} (u : Bundle) (hh : (s.leg l).hand = some h) :
    Cells s (s.takePacket l h u) := by
  have hcount : Still s (s.modLeg l (fun x => x.count (fun c => { c with packetsTaken := bump c.packetsTaken }))) :=
    modLeg_still s l _ rfl
  unfold State.takePacket
  simp only
  split
  · refine (hcount.trans (withHand_still _ l (h := h) (h' := { h with index := h.index + 1, retries := 0 }) ?_ rfl)).cells
    rw [Requests.hand_count]
    exact hh
  · refine (hcount.trans ((countFor_still _ h u l _).trans (modLeg_still _ l _ rfl))).cells.trans
      (finishUnit_cells _ l ?_)
    rw [Requests.hand_count, Requests.leg_countFor, Requests.hand_count]
    exact hh

theorem retryPacket_cells (l : Leg) {h : Hand} (u : Bundle) (hh : (s.leg l).hand = some h) :
    Cells s (s.retryPacket l h u) := by
  have hcount := (countFor_still s h u l (fun c => { c with retries := bump c.retries })).trans
    (modLeg_still _ l (fun x => x.count (fun c => { c with retries := bump c.retries })) rfl)
  have hhand : (((s.countFor h u l (fun c => { c with retries := bump c.retries })).modLeg l
      (fun x => x.count (fun c => { c with retries := bump c.retries }))).leg l).hand = some h := by
    rw [Requests.hand_count, Requests.leg_countFor]
    exact hh
  unfold State.retryPacket
  simp only
  split
  · exact (hcount.trans (withHand_still _ l
      (h' := { h with retries := h.retries + 1, phase := .retryWait false }) hhand rfl)).cells
  · exact hcount.cells.trans (endUnit_cells _ l u hhand)

theorem answer_cells (l : Leg) (act : Hand → Bundle → State)
    (h : ∀ h u, (s.leg l).hand = some h → Cells s (act h u)) : Cells s (s.answer l act) := by
  unfold State.answer
  split
  · exact (modLeg_still s l _ rfl).cells
  next hh =>
    split
    · exact (modLeg_still s l _ rfl).cells
    · split
      · exact h _ _ hh
      · exact Cells.refl s

theorem permitFalls_still (l : Leg) : Still s (s.permitFalls l) := by
  unfold State.permitFalls
  split
  · exact (modLegSettled_still s l _ rfl).trans (emit_still _ _)
  · exact modLeg_still s l _ rfl

theorem permitRises_still (l : Leg) : Still s (s.permitRises l) := by
  unfold State.permitRises
  split
  · exact (modLegSettled_still s l _ rfl).trans (emit_still _ _)
  · exact (modLegSettled_still s l _ rfl).trans (emit_still _ _)
  · exact modLeg_still s l _ rfl

theorem setFreeze_still (level : Bool) : Still s (s.setFreeze level) := by
  refine ⟨rfl, fun _ => rfl, fun _ => rfl, fun i => ?_⟩
  rw [places_eq, places_eq]
  have hb : handCount (s.setFreeze level).legB i = handCount s.legB i := by
    unfold State.setFreeze
    simp only
    split <;> rfl
  rw [hb]
  rfl

theorem legOut_still (l : Leg) : Still s (s.legOut l) := by
  refine Still.trans ?_ (emit_still _ _)
  split
  · exact Still.refl s
  · exact modLegSettled_still s l _ rfl

theorem legIn_still (l : Leg) : Still s (s.legIn l) := by
  refine Still.trans ?_ (emit_still _ _)
  split
  · exact modLegSettled_still s l _ (by split <;> rfl)
  · exact Still.refl s

/-! ## Every act -/

theorem cells_of_dataAct {s t : State} {c : Instr} (h : DataAct s c t) : Cells s t := by
  cases h with
  | idle => exact Cells.refl s
  | port c p => exact (setPort_still s p).cells
  | latch => exact (setTime_still s _).cells
  | packet c flow p hready => exact judgePacket_cells s flow p hready
  | startDrain c f => exact startDrain_cells s f
  | flush c f clock => exact (setClock_still s clock).cells.trans (flushFlow_cells _ f)
  | validReading c x => exact (clockTick_still s).cells.trans (validReading_cells _ x)
  | invalidReading => exact ((clockTick_still s).trans (invalidReading_still _)).cells
  | examine c f id now rest hq hnow hb => exact examineHead_cells hq (bindable_legs hb) _ now
  | serve l e now hfit hreq hhand hnamed hnow =>
    obtain ⟨-, -, ⟨rest, hq⟩, -⟩ := Calendar.named_eligible s l hnamed
    exact serve_cells hq hhand now
  | take l => exact answer_cells s l _ fun h u hh => takePacket_cells s l u hh
  | retry l => exact answer_cells s l _ fun h u hh => retryPacket_cells s l u hh
  | fault l => exact answer_cells s l _ fun h u hh => endUnit_cells s l u hh
  | reoffer c l h hh => exact (withHand_still s l (h' := { h with phase := .offering }) hh rfl).cells
  | permitFalls c l => exact (permitFalls_still s l).cells
  | permitRises c l => exact (permitRises_still s l).cells
  | stallRanOut c l d =>
    exact (((setClock_still s _).trans (modLegSettled_still _ l _ rfl)).trans (emit_still _ _)).cells
  | setFreeze c level => exact (setFreeze_still s level).cells
  | legOut c l => exact (legOut_still s l).cells
  | legIn c l => exact (legIn_still s l).cells

theorem cells_of_adm {s t : State} (h : AdmStep s t) : Cells s t := (still_of_adm s h).cells

theorem flow_afterReset (straps : Straps) (a b z : Bool) (pending : List Instr) (f : FlowId) :
    (State.afterReset straps a b z pending).flow f = Flow.afterReset := by
  simp [State.flow, State.afterReset]

theorem leg_afterReset_hand (straps : Straps) (a b z : Bool) (pending : List Instr) (l : Leg) :
    ((State.afterReset straps a b z pending).leg l).hand = none := by
  cases l with
  | a => rfl
  | b => simp only [State.leg, State.afterReset]; split <;> rfl

theorem places_afterReset (straps : Straps) (a b z : Bool) (pending : List Instr) (i : Nat) :
    (State.afterReset straps a b z pending).places i = 0 := by
  have hlegs (l : Leg) : handCount ((State.afterReset straps a b z pending).leg l) i = 0 := by
    rw [handCount, leg_afterReset_hand]
    rfl
  have hflows : (allFlows.map (fun f => ((State.afterReset straps a b z pending).flow f).holds.count i)).sum = 0 := by
    refine List.sum_eq_zero fun n hn => ?_
    obtain ⟨f, -, rfl⟩ := List.mem_map.mp hn
    rw [flow_afterReset]
    rfl
  rw [places_eq, hflows]
  have h1 := hlegs .a
  have h2 := hlegs .b
  simp only [State.leg] at h1 h2
  omega

theorem afterReset_whole (straps : Straps) (a b z : Bool) (pending : List Instr) :
    (State.afterReset straps a b z pending).PoolWhole := rfl

theorem afterReset_exact (straps : Straps) (a b z : Bool) (pending : List Instr) :
    (State.afterReset straps a b z pending).HoldersExact := by
  rw [holdersExact_iff]
  refine ⟨⟨List.nodup_nil, fun u hu => absurd hu List.not_mem_nil, fun i hi => ?_⟩, fun f i hi => ?_⟩
  · rw [places_afterReset] at hi
    omega
  · rw [flow_afterReset] at hi
    exact absurd hi List.not_mem_nil

/-- An act keeps the pool whole and the holder counts exact. -/
theorem act_keeps_cells {s t : State} {c : Instr} (h : Act s c t) :
    (s.PoolWhole → t.PoolWhole) ∧ (s.HoldersExact → t.HoldersExact) :=
  ⟨fun hs => h.kept_by_data (P := State.PoolWhole) hs hs (fun straps a b z => afterReset_whole straps a b z s.pending)
      (fun _ ht => (cells_of_dataAct ht).pool hs) (fun _ _ hu ht => (cells_of_adm ht).pool hu),
    fun hs => h.kept_by_data (P := State.HoldersExact) hs hs
      (fun straps a b z => afterReset_exact straps a b z s.pending)
      (fun _ ht => (cells_of_dataAct ht).exact hs) (fun _ _ hu ht => (cells_of_adm ht).exact hu)⟩

/-- Settles O53: an operation releases exactly the holds that it takes from their places, and gives a unit the holders
of the places where it puts it. -/
theorem everyStepKeepsTheCells : Obligations.EveryStepKeepsTheCells := by
  intro s t hstep
  obtain rfl | ⟨c, rest, h⟩ := act_of_step hstep
  · exact ⟨id, id⟩
  · have hkeeps := act_keeps_cells h
    exact hkeeps

end Sys2Proof.Proofs.CellStore
end

section
/-! The send list (R114-R116, R119, R148): what the additions and removals do to a list that is in order, and that
every act keeps it so. -/

namespace Sys2Proof.Proofs.SendList

open Sys2Proof Sys2Proof.Machine Sys2Proof.Proofs.Frames Sys2Proof.Proofs.Acts Sys2Proof.Proofs.Counters

/-! ## The kinds of notices -/

@[simp] theorem rank_yield (mask x : Nat) : (Notice.yield mask x).rank = 0 := rfl

@[simp] theorem rank_claim (mask x : Nat) : (Notice.claim mask x).rank = 1 := rfl

@[simp] theorem rank_load (a b n : Nat) : (Notice.load a b n).rank = 2 := rfl

theorem isLoad_iff (n : Notice) : n.isLoad = true ↔ ∃ a b c, n = .load a b c := by
  cases n <;> simp [Notice.isLoad, Notice.rank]

theorem isYieldOn_iff (n : Notice) (mask : Nat) : n.isYieldOn mask = true ↔ ∃ x, n = .yield mask x := by
  cases n <;> simp [Notice.isYieldOn]

/-- A notice with its content left out but for the leg mask of a YIELD: what the list holds one entry of (R114). -/
def bare (n : Notice) : Notice :=
  match n with
  | .yield mask _ => .yield mask 0
  | .claim _ _ => .claim 0 0
  | .load _ _ _ => .load 0 0 0

theorem rank_bare (n : Notice) : (bare n).rank = n.rank := by cases n <;> rfl

theorem rank_of_bare {n m : Notice} (h : bare n = bare m) : n.rank = m.rank := by
  rw [← rank_bare, h, rank_bare]

theorem isClaim_of_bare {n m : Notice} (h : bare n = bare m) : n.isClaim = m.isClaim := by
  rw [Notice.isClaim, Notice.isClaim, rank_of_bare h]

theorem isClaim_iff_bare (n : Notice) : n.isClaim = true ↔ bare n = .claim 0 0 := by
  cases n <;> simp [Notice.isClaim, Notice.rank, bare]

theorem isLoad_iff_bare (n : Notice) : n.isLoad = true ↔ bare n = .load 0 0 0 := by
  cases n <;> simp [Notice.isLoad, Notice.rank, bare]

theorem isYieldOn_iff_bare (n : Notice) (mask : Nat) : n.isYieldOn mask = true ↔ bare n = .yield mask 0 := by
  cases n <;> simp [Notice.isYieldOn, bare]

theorem bare_cases (n : Notice) : n.isClaim = true ∨ n.isLoad = true ∨ ∃ mask, n.isYieldOn mask = true := by
  cases n <;> simp [Notice.isClaim, Notice.isLoad, Notice.rank, Notice.isYieldOn]

theorem bare_merge (n : Notice) (amount : Nat) : bare (n.merge amount) = bare n := by cases n <;> rfl

theorem bare_less (n m : Notice) : bare (n.less m) = bare n := by cases n <;> cases m <;> rfl

/-! ## Additions (R115) -/

theorem insertEntry_append (n : Notice) {before : List SendEntry} (after : List SendEntry)
    (h : ∀ e ∈ before, e.notice.rank ≤ n.rank) : insertEntry n (before ++ after) = before ++ insertEntry n after := by
  induction before with
  | nil => rfl
  | cons e es ih =>
    rw [List.cons_append, insertEntry, if_neg (Nat.not_lt.mpr (h e List.mem_cons_self)),
      ih fun x hx => h x (List.mem_cons_of_mem _ hx)]
    rfl

theorem insertEntry_before (n : Notice) {after : List SendEntry} (h : ∀ e ∈ after, n.rank < e.notice.rank) :
    insertEntry n after = ⟨n, false, false⟩ :: after := by
  cases after with
  | nil => rfl
  | cons e es => rw [insertEntry, if_pos (h e List.mem_cons_self)]

/-- A new entry stands after those of its own and earlier kinds and before the others. -/
theorem insertEntry_between (n : Notice) {before after : List SendEntry} (hb : ∀ e ∈ before, e.notice.rank ≤ n.rank)
    (ha : ∀ e ∈ after, n.rank < e.notice.rank) :
    insertEntry n (before ++ after) = before ++ ⟨n, false, false⟩ :: after := by
  rw [insertEntry_append n after hb, insertEntry_before n ha]

/-- A new entry adds itself and moves no other. -/
theorem insertEntry_perm (n : Notice) (es : List SendEntry) : (insertEntry n es).Perm (⟨n, false, false⟩ :: es) := by
  induction es with
  | nil => exact List.Perm.refl _
  | cons e es ih =>
    rw [insertEntry]
    split
    · exact List.Perm.refl _
    · exact (ih.cons e).trans (List.Perm.swap _ _ _)

/-- Settles O49: an addition of a new kind is an insertion between the entries of earlier and of later kinds, another
changes the first entry of its kind. -/
theorem additionsToTheSendList : Obligations.AdditionsToTheSendList := by
  intro before after e isYield isClaim isLoad
  have hyield {d : SendEntry} (h : isYield d) : d.notice.rank = 0 := by
    obtain ⟨m, x, e⟩ := h
    rw [e]
    rfl
  have hclaim {d : SendEntry} (h : isClaim d) : d.notice.rank = 1 := by
    obtain ⟨m, x, e⟩ := h
    rw [e]
    rfl
  have hload {d : SendEntry} (h : isLoad d) : d.notice.rank = 2 := by
    obtain ⟨a, b, n, e⟩ := h
    rw [e]
    rfl
  have hnoYield {d : SendEntry} {mask : Nat} (h : ∀ x, d.notice ≠ .yield mask x) : d.notice.isYieldOn mask = false := by
    rw [← Bool.not_eq_true, isYieldOn_iff]
    exact fun ⟨x, e⟩ => h x e
  have hnoLoad {d : SendEntry} (h : isYield d ∨ isClaim d) : d.notice.isLoad = false := by
    obtain h | h := h
    · rw [Notice.isLoad, hyield h]; rfl
    · rw [Notice.isLoad, hclaim h]; rfl
  refine ⟨fun mask amount hb ha hnew => ?_, fun mask amount x he hnew => ?_, fun mask amount hb ha => ?_,
    fun a b n hb => ?_, fun a b n he hb => ?_⟩
  · have hnone : ((before ++ after).any fun d => d.notice.isYieldOn mask) = false := by
      rw [List.any_eq_false]
      intro d hd
      rw [Bool.not_eq_true]
      obtain hd | hd := List.mem_append.mp hd
      · exact hnoYield (hnew d hd)
      · refine hnoYield fun x e => ?_
        obtain h | h := ha d hd
        · exact absurd (hclaim h) (by simp [e])
        · exact absurd (hload h) (by simp [e])
    rw [addYield, hnone, if_neg Bool.false_ne_true, insertEntry_between (.yield mask amount) (fun d hd => (hyield (hb d hd)).le) ?_]
    intro d hd
    obtain h | h := ha d hd
    · rw [hclaim h, rank_yield]; exact Nat.one_pos
    · rw [hload h, rank_yield]; exact Nat.two_pos
  · have hon : e.notice.isYieldOn mask = true := (isYieldOn_iff _ _).mpr ⟨x, he⟩
    have hany : ((before ++ e :: after).any fun d => d.notice.isYieldOn mask) = true :=
      List.any_eq_true.mpr ⟨e, by simp, hon⟩
    rw [addYield, hany, if_pos rfl, updateFirst_append _ _ _ _ (fun d hd => hnoYield (hnew d hd)) hon]
    simp only [SendEntry.change, he, Notice.merge, Config.amountMax]
    congr 4
    split <;> omega
  · rw [addClaim, insertEntry_between]
    · exact fun d hd => by rw [hyield (hb d hd)]; exact Nat.zero_le _
    · exact fun d hd => by rw [hload (ha d hd), rank_claim]; exact Nat.one_lt_two
  · have hnone : (before.any fun d => d.notice.isLoad) = false := by
      rw [List.any_eq_false]
      exact fun d hd => by rw [hnoLoad (hb d hd)]; exact Bool.false_ne_true
    rw [addLoad, hnone, if_neg Bool.false_ne_true]
    have h := insertEntry_between (.load a b n) (before := before) (after := [])
      (fun d hd => by
        obtain h | h := hb d hd
        · rw [hyield h]; exact Nat.zero_le _
        · rw [hclaim h]; exact one_le_two) (by simp)
    rwa [List.append_nil] at h
  · have hon : e.notice.isLoad = true := (isLoad_iff _).mpr he
    have hany : ((before ++ e :: after).any fun d => d.notice.isLoad) = true :=
      List.any_eq_true.mpr ⟨e, by simp, hon⟩
    rw [addLoad, hany, if_pos rfl, updateFirst_append _ _ _ _ (fun d hd => hnoLoad (hb d hd)) hon]
    rfl

/-! ## A list in order -/

/-- What the additions and removals keep of the list and of the notice being sent. -/
structure Listed (es : List SendEntry) (sending : Option Notice) : Prop where
  ordered : es.Pairwise (fun x y => x.notice.rank ≤ y.notice.rank)
  distinct : (es.map (fun e => bare e.notice)).Nodup
  oneOnWire : es.countP (fun e => e.onWire) ≤ 1
  onWire : es.any (fun e => e.onWire) = sending.isSome
  sent : ∀ e ∈ es, e.onWire = true → ∀ n, sending = some n →
    n.rank = e.notice.rank ∧ (e.changed = false → n = e.notice)
  changed : ∀ e ∈ es, e.changed = true → e.onWire = true ∧ e.notice.isClaim = false

/-- No entry of a kind is listed twice exactly where each kind is listed at most once. -/
theorem distinct_iff (es : List SendEntry) : (es.map (fun e => bare e.notice)).Nodup ↔
    (es.filter (fun e => e.notice.isClaim)).length ≤ 1 ∧ (es.filter (fun e => e.notice.isLoad)).length ≤ 1 ∧
      ∀ mask, (es.filter (fun e => e.notice.isYieldOn mask)).length ≤ 1 := by
  have hcount (q : Notice → Bool) (k : Notice) (h : ∀ n, q n = true ↔ bare n = k) :
      (es.filter (fun e => q e.notice)).length = (es.map (fun e => bare e.notice)).count k := by
    rw [← List.countP_eq_length_filter, List.count, List.countP_map]
    refine List.countP_congr fun e _ => ?_
    rw [h, Function.comp, beq_iff_eq]
  rw [hcount _ _ isClaim_iff_bare, hcount _ _ isLoad_iff_bare, List.nodup_iff_count_le_one]
  constructor
  · refine fun h => ⟨h _, h _, fun mask => ?_⟩
    rw [hcount (fun n => n.isYieldOn mask) _ fun n => isYieldOn_iff_bare n mask]
    exact h _
  · rintro ⟨hclaim, hload, hyield⟩ k
    by_cases hk : k ∈ es.map (fun e => bare e.notice)
    · obtain ⟨e, -, rfl⟩ := List.mem_map.mp hk
      obtain h | h | ⟨mask, h⟩ := bare_cases e.notice
      · rwa [(isClaim_iff_bare _).mp h]
      · rwa [(isLoad_iff_bare _).mp h]
      · rw [(isYieldOn_iff_bare _ mask).mp h,
          ← hcount (fun n => n.isYieldOn mask) _ fun n => isYieldOn_iff_bare n mask]
        exact hyield mask
    · rw [List.count_eq_zero_of_not_mem hk]
      exact Nat.zero_le _

/-- An entry that is not on the wire is not marked as changed. -/
theorem Listed.unchanged {es : List SendEntry} {o : Option Notice} (h : Listed es o) {e : SendEntry} (he : e ∈ es)
    (hw : e.onWire = false) : e.changed = false := by
  by_contra hc
  have := (h.changed e he (by simpa using hc)).1
  rw [hw] at this
  exact absurd this Bool.false_ne_true

theorem listed_nil : Listed [] none :=
  ⟨List.Pairwise.nil, List.nodup_nil, Nat.zero_le _, rfl, fun _ h => absurd h List.not_mem_nil,
    fun _ h => absurd h List.not_mem_nil⟩

/-- An entry of a new kind is added. -/
theorem Listed.insert {es : List SendEntry} {o : Option Notice} (h : Listed es o) {n : Notice}
    (hnew : ∀ e ∈ es, bare e.notice ≠ bare n) : Listed (insertEntry n es) o := by
  have hperm := insertEntry_perm n es
  refine ⟨insertEntry_sorted n es h.ordered, ?_, ?_, ?_, fun e he => ?_, fun e he => ?_⟩
  · rw [(hperm.map _).nodup_iff, List.map_cons, List.nodup_cons]
    refine ⟨fun hmem => ?_, h.distinct⟩
    obtain ⟨e, he, heq⟩ := List.mem_map.mp hmem
    exact hnew e he heq
  · rw [hperm.countP_eq, List.countP_cons]
    exact h.oneOnWire
  · rw [hperm.any_eq, List.any_cons]
    exact h.onWire
  · obtain rfl | he := (insertEntry_mem n es e).mp he
    · exact fun hw => absurd hw Bool.false_ne_true
    · exact h.sent e he
  · obtain rfl | he := (insertEntry_mem n es e).mp he
    · exact fun hc => absurd hc Bool.false_ne_true
    · exact h.changed e he

section
variable {α : Type} (p : α → Bool) (g : α → α)

theorem map_updateFirst_of {β : Type} (r : α → β) (xs : List α) (h : ∀ x ∈ xs, p x = true → r (g x) = r x) :
    (updateFirst p g xs).map r = xs.map r := by
  induction xs with
  | nil => rfl
  | cons x xs ih =>
    rw [updateFirst]
    split
    next hp => rw [List.map_cons, List.map_cons, h x List.mem_cons_self hp]
    · rw [List.map_cons, List.map_cons, ih fun y hy => h y (List.mem_cons_of_mem _ hy)]

theorem mem_updateFirst {xs : List α} {y : α} (hy : y ∈ updateFirst p g xs) :
    y ∈ xs ∨ ∃ x ∈ xs, p x = true ∧ y = g x := by
  induction xs with
  | nil => exact absurd hy List.not_mem_nil
  | cons x xs ih =>
    rw [updateFirst] at hy
    split at hy
    next hp =>
      obtain rfl | hy := List.mem_cons.mp hy
      · exact .inr ⟨x, List.mem_cons_self, hp, rfl⟩
      · exact .inl (List.mem_cons_of_mem _ hy)
    · obtain rfl | hy := List.mem_cons.mp hy
      · exact .inl List.mem_cons_self
      · obtain hy | ⟨z, hz, hp, e⟩ := ih hy
        · exact .inl (List.mem_cons_of_mem _ hy)
        · exact .inr ⟨z, List.mem_cons_of_mem _ hz, hp, e⟩

end

/-- The parts of a list that stay where every entry keeps its kind and its mark as on the wire. -/
theorem listed_of_marks {es fs : List SendEntry} {o : Option Notice} (h : Listed es o)
    (hmap : fs.map (fun e => (bare e.notice, e.onWire)) = es.map (fun e => (bare e.notice, e.onWire)))
    (hsent : ∀ e ∈ fs, e.onWire = true → ∀ n, o = some n → n.rank = e.notice.rank ∧ (e.changed = false → n = e.notice))
    (hchanged : ∀ e ∈ fs, e.changed = true → e.onWire = true ∧ e.notice.isClaim = false) : Listed fs o := by
  have hbare : fs.map (fun e => bare e.notice) = es.map (fun e => bare e.notice) := by
    simpa [Function.comp_def] using congrArg (List.map Prod.fst) hmap
  have hwire : fs.map (fun e => e.onWire) = es.map (fun e => e.onWire) := by
    simpa [Function.comp_def] using congrArg (List.map Prod.snd) hmap
  have hrank : fs.map (fun e => e.notice.rank) = es.map (fun e => e.notice.rank) := by
    simpa [Function.comp_def, rank_bare] using congrArg (List.map Notice.rank) hbare
  refine ⟨?_, hbare ▸ h.distinct, ?_, ?_, hsent, hchanged⟩
  · have := List.pairwise_map.mpr h.ordered
    rw [← hrank] at this
    exact List.pairwise_map.mp this
  · have hcount (xs : List SendEntry) : xs.countP (fun e => e.onWire) = (xs.map (fun e => e.onWire)).countP id := by
      rw [List.countP_map]; rfl
    rw [hcount, hwire, ← hcount]
    exact h.oneOnWire
  · have hany (xs : List SendEntry) : xs.any (fun e => e.onWire) = (xs.map (fun e => e.onWire)).any id := by
      rw [List.any_map]; rfl
    rw [hany, hwire, ← hany]
    exact h.onWire

/-- An entry that is no CLAIM is merged into or replaced. -/
theorem Listed.update {es : List SendEntry} {o : Option Notice} (h : Listed es o) (p : SendEntry → Bool)
    (g : SendEntry → Notice) (hkind : ∀ e, p e = true → bare (g e) = bare e.notice)
    (hclaim : ∀ e, p e = true → e.notice.isClaim = false) :
    Listed (updateFirst p (fun e => e.change (g e)) es) o := by
  refine listed_of_marks h (map_updateFirst_of p _ _ es fun e _ hp => ?_) (fun e he hw n hn => ?_) fun e he hc => ?_
  · simp [SendEntry.change, hkind e hp]
  · obtain he | ⟨e, hmem, hp, rfl⟩ := mem_updateFirst p _ he
    · exact h.sent e he hw n hn
    · have hw' : e.onWire = true := hw
      refine ⟨?_, fun hc => ?_⟩
      · rw [(h.sent e hmem hw' n hn).1]
        exact (rank_of_bare (hkind e hp)).symm
      · simp [SendEntry.change, hw'] at hc
  · obtain he | ⟨e, hmem, hp, rfl⟩ := mem_updateFirst p _ he
    · exact h.changed e he hc
    · have hclaim' : (e.change (g e)).notice.isClaim = false := by
        rw [← hclaim e hp]
        exact isClaim_of_bare (hkind e hp)
      refine ⟨?_, hclaim'⟩
      change (e.changed || e.onWire) = true at hc
      obtain hc | hc := Bool.or_eq_true _ _ ▸ hc
      · exact (h.changed e hmem hc).1
      · exact hc

theorem any_isClaim_of_bare {es fs : List SendEntry}
    (h : fs.map (fun e => bare e.notice) = es.map (fun e => bare e.notice)) :
    fs.any (fun e => e.notice.isClaim) = es.any (fun e => e.notice.isClaim) := by
  have hany (xs : List SendEntry) : xs.any (fun e => e.notice.isClaim) =
      (xs.map (fun e => bare e.notice)).any Notice.isClaim := by
    rw [List.any_map]
    congr 1
    funext e
    rw [Notice.isClaim, Function.comp, Notice.isClaim, rank_bare]
  rw [hany, h, ← hany]

theorem any_isClaim_insert (n : Notice) (es : List SendEntry) :
    (insertEntry n es).any (fun e => e.notice.isClaim) = (n.isClaim || es.any (fun e => e.notice.isClaim)) := by
  rw [(insertEntry_perm n es).any_eq, List.any_cons]

/-! ### The additions -/

theorem addYield_listed {es : List SendEntry} {o : Option Notice} (h : Listed es o) (mask amount : Nat) :
    Listed (addYield mask amount es) o ∧
      (addYield mask amount es).any (fun e => e.notice.isClaim) = es.any (fun e => e.notice.isClaim) := by
  unfold addYield
  split
  · have hkind (e : SendEntry) : bare (e.notice.merge amount) = bare e.notice := bare_merge _ _
    refine ⟨h.update _ _ (fun e _ => hkind e) fun e hp => ?_, any_isClaim_of_bare ?_⟩
    · obtain ⟨x, hx⟩ := (isYieldOn_iff _ _).mp hp
      rw [hx]; rfl
    · exact map_updateFirst_of _ _ _ es fun e _ _ => hkind e
  next hnone =>
    refine ⟨h.insert fun e he hb => hnone ?_, any_isClaim_insert _ _⟩
    exact List.any_eq_true.mpr ⟨e, he, (isYieldOn_iff_bare _ _).mpr hb⟩

theorem addLoad_listed {es : List SendEntry} {o : Option Notice} (h : Listed es o) (a b n : Nat) :
    Listed (addLoad a b n es) o ∧
      (addLoad a b n es).any (fun e => e.notice.isClaim) = es.any (fun e => e.notice.isClaim) := by
  unfold addLoad
  split
  · have hkind (e : SendEntry) (hp : e.notice.isLoad = true) : bare (.load a b n) = bare e.notice :=
      ((isLoad_iff_bare _).mp hp).symm
    refine ⟨h.update _ (fun _ => .load a b n) hkind fun e hp => ?_, any_isClaim_of_bare ?_⟩
    · obtain ⟨a', b', n', hx⟩ := (isLoad_iff _).mp hp
      rw [hx]; rfl
    · exact map_updateFirst_of _ _ _ es fun e _ hp => hkind e hp
  next hnone =>
    refine ⟨h.insert fun e he hb => hnone ?_, any_isClaim_insert _ _⟩
    exact List.any_eq_true.mpr ⟨e, he, (isLoad_iff_bare _).mpr hb⟩

theorem addClaim_listed {es : List SendEntry} {o : Option Notice} (h : Listed es o)
    (hnone : es.any (fun e => e.notice.isClaim) = false) (mask amount : Nat) :
    Listed (addClaim mask amount es) o ∧ (addClaim mask amount es).any (fun e => e.notice.isClaim) = true := by
  refine ⟨h.insert fun e he hb => ?_, any_isClaim_insert _ _⟩
  have := (List.any_eq_false.mp hnone) e he
  exact this ((isClaim_iff_bare _).mpr hb)

/-! ### The removals -/

theorem leave_listed {es : List SendEntry} {o : Option Notice} (h : Listed es o) :
    Listed (es.map (fun e => if e.onWire then { e with onWire := false, changed := false } else e)) none ∧
      (es.map (fun e => if e.onWire then { e with onWire := false, changed := false } else e)).any
        (fun e => e.notice.isClaim) = es.any (fun e => e.notice.isClaim) := by
  have hnotice (e : SendEntry) :
      (if e.onWire then { e with onWire := false, changed := false } else e).notice = e.notice := by split <;> rfl
  have hwire (e : SendEntry) :
      (if e.onWire then { e with onWire := false, changed := false } else e).onWire = false := by
    split
    · rfl
    next h => exact Bool.not_eq_true _ ▸ h
  refine ⟨⟨?_, ?_, ?_, ?_, fun e he hw => ?_, fun e he hc => ?_⟩, ?_⟩
  · simp only [List.pairwise_map, hnotice]
    exact h.ordered
  · rw [List.map_map]
    simp only [Function.comp_def, hnotice]
    exact h.distinct
  · rw [List.countP_map]
    simp only [Function.comp_def, hwire, List.countP_false]
    exact Nat.zero_le _
  · rw [List.any_map]
    simp [Function.comp_def, hwire]
  · obtain ⟨x, -, rfl⟩ := List.mem_map.mp he
    rw [hwire] at hw
    exact absurd hw Bool.false_ne_true
  · obtain ⟨x, hx, rfl⟩ := List.mem_map.mp he
    split at hc
    · exact absurd hc Bool.false_ne_true
    next hw =>
      rw [h.unchanged hx (by simpa using hw)] at hc
      exact absurd hc Bool.false_ne_true
  · rw [List.any_map]
    simp only [Function.comp_def, hnotice]

/-- Of the entries, those that a removal keeps; the notice being sent stays where its entry is kept. -/
theorem Listed.sublist {es fs : List SendEntry} {o : Option Notice} (h : Listed es o) (hsub : fs.Sublist es)
    (hwire : fs.any (fun e => e.onWire) = o.isSome) : Listed fs o :=
  ⟨h.ordered.sublist hsub, h.distinct.sublist (hsub.map _), (hsub.countP_le).trans h.oneOnWire, hwire,
    fun e he => h.sent e (hsub.subset he), fun e he => h.changed e (hsub.subset he)⟩

/-- The notice being sent is cut with the entry on the wire. -/
theorem Listed.cut {es fs : List SendEntry} {o : Option Notice} (h : Listed es o) (hsub : fs.Sublist es)
    (hwire : fs.any (fun e => e.onWire) = false) : Listed fs none := by
  have hoff (e : SendEntry) (he : e ∈ fs) (hw : e.onWire = true) : False := List.any_eq_false.mp hwire e he hw
  exact ⟨h.ordered.sublist hsub, h.distinct.sublist (hsub.map _), (hsub.countP_le).trans h.oneOnWire, hwire,
    fun e he hw => (hoff e he hw).elim, fun e he => h.changed e (hsub.subset he)⟩

/-- One entry is on the wire, so that the others are not. -/
theorem off_wire_of_one {es : List SendEntry} (h : es.countP (fun e => e.onWire) ≤ 1) {e d : SendEntry} (he : e ∈ es)
    (hd : d ∈ es) (hew : e.onWire = true) (hdw : d.onWire = true) (hne : e ≠ d) : False := by
  have hperm := List.perm_cons_erase he
  have hd' : d ∈ es.erase e := (List.mem_erase_of_ne hne.symm).mpr hd
  have hpos : 0 < (es.erase e).countP (fun e => e.onWire) := List.countP_pos_iff.mpr ⟨d, hd', hdw⟩
  rw [hperm.countP_eq, List.countP_cons, if_pos hew] at h
  omega

theorem withdrawClaim_listed {x : Line} (h : Listed x.sendList x.sending) :
    Listed x.withdrawClaim.sendList x.withdrawClaim.sending ∧
      x.withdrawClaim.sendList.any (fun e => e.notice.isClaim) = false := by
  have hlist : x.withdrawClaim.sendList = x.sendList.filter (fun e => !e.notice.isClaim) := by
    unfold Line.withdrawClaim
    simp only
    split <;> rfl
  have hnone : x.withdrawClaim.sendList.any (fun e => e.notice.isClaim) = false := by
    rw [hlist, List.any_eq_false]
    intro e he
    simpa using (List.mem_filter.mp he).2
  refine ⟨?_, hnone⟩
  rw [hlist]
  have hsub : (x.sendList.filter (fun e => !e.notice.isClaim)).Sublist x.sendList := List.filter_sublist
  cases hc : x.claimOnWire with
  | true =>
    have hsending : x.withdrawClaim.sending = none := by simp [Line.withdrawClaim, hc]
    rw [hsending]
    refine h.cut hsub ?_
    rw [List.any_eq_false]
    intro d hd hdw
    obtain ⟨hmem, hno⟩ := List.mem_filter.mp hd
    obtain ⟨e, he, hew⟩ := List.any_eq_true.mp hc
    rw [Bool.and_eq_true] at hew
    refine off_wire_of_one h.oneOnWire he hmem hew.2 hdw ?_
    rintro rfl
    rw [hew.1] at hno
    exact absurd hno Bool.false_ne_true
  | false =>
    have hsending : x.withdrawClaim.sending = x.sending := by simp [Line.withdrawClaim, hc]
    rw [hsending]
    refine h.sublist hsub ?_
    rw [← h.onWire, List.any_filter]
    have hoff := List.any_eq_false.mp hc
    refine Bool.eq_iff_iff.mpr ⟨fun hw => ?_, fun hw => ?_⟩
    · obtain ⟨e, he, hew⟩ := List.any_eq_true.mp hw
      exact List.any_eq_true.mpr ⟨e, he, (Bool.and_eq_true _ _ ▸ hew).2⟩
    · obtain ⟨e, he, hew⟩ := List.any_eq_true.mp hw
      refine List.any_eq_true.mpr ⟨e, he, ?_⟩
      have := hoff e he
      rw [hew, Bool.and_true, Bool.not_eq_true] at this
      rw [this, hew]
      rfl

theorem markHead_listed {e : SendEntry} {es : List SendEntry} (h : Listed (e :: es) none) :
    Listed (markHead (e :: es)) (some e.notice) ∧
      (markHead (e :: es)).any (fun e => e.notice.isClaim) = (e :: es).any (fun e => e.notice.isClaim) := by
  have hoff (d : SendEntry) (hd : d ∈ e :: es) : d.onWire = false := by
    simpa using List.any_eq_false.mp h.onWire d hd
  refine ⟨⟨?_, ?_, ?_, rfl, fun d hd hw n hn => ?_, fun d hd hc => ?_⟩, rfl⟩
  · exact List.pairwise_cons.mpr (List.pairwise_cons.mp h.ordered)
  · exact h.distinct
  · have hzero : es.countP (fun e => e.onWire) = 0 :=
      List.countP_eq_zero.mpr fun d hd => by simp [hoff d (List.mem_cons_of_mem _ hd)]
    rw [markHead, List.countP_cons, hzero]
    exact le_rfl
  · obtain rfl | hd := List.mem_cons.mp hd
    · cases hn
      exact ⟨rfl, fun _ => rfl⟩
    · rw [hoff d (List.mem_cons_of_mem _ hd)] at hw
      exact absurd hw Bool.false_ne_true
  · obtain rfl | hd := List.mem_cons.mp hd
    · exact absurd hc Bool.false_ne_true
    · exact h.changed d (List.mem_cons_of_mem _ hd) hc

/-- The entry on the wire stands between others that are not. -/
theorem Listed.split {es : List SendEntry} {n : Notice} (h : Listed es (some n)) :
    ∃ before e after, es = before ++ e :: after ∧ e.onWire = true ∧ (∀ d ∈ before, d.onWire = false) ∧
      ∀ d ∈ after, d.onWire = false := by
  obtain ⟨e, he⟩ : ∃ e, es.find? (fun e => e.onWire) = some e := by
    rw [← Option.isSome_iff_exists, List.find?_isSome]
    simpa using h.onWire
  obtain ⟨hw, before, after, rfl, hbefore⟩ := List.find?_eq_some_iff_append.mp he
  refine ⟨before, e, after, rfl, hw, fun d hd => by simpa using hbefore d hd, fun d hd => ?_⟩
  by_contra hdw
  have hpos : 0 < after.countP (fun e => e.onWire) := List.countP_pos_iff.mpr ⟨d, hd, by simpa using hdw⟩
  have := h.oneOnWire
  rw [List.countP_append, List.countP_cons, if_pos hw] at this
  omega

theorem completeEntry_append (n : Notice) {before : List SendEntry} {e : SendEntry} (after : List SendEntry)
    (hbefore : ∀ d ∈ before, d.onWire = false) (hw : e.onWire = true) :
    completeEntry n (before ++ e :: after) =
      before ++ (if e.changed then ⟨e.notice.less n, false, false⟩ :: after else after) := by
  induction before with
  | nil => simp [completeEntry, hw]
  | cons d ds ih =>
    rw [List.cons_append, completeEntry, hbefore d List.mem_cons_self, if_neg Bool.false_ne_true,
      ih fun x hx => hbefore x (List.mem_cons_of_mem _ hx)]
    rfl

theorem completeEntry_listed {es : List SendEntry} {n : Notice} (h : Listed es (some n)) :
    Listed (completeEntry n es) none ∧
      (completeEntry n es).any (fun e => e.notice.isClaim) = (!n.isClaim && es.any (fun e => e.notice.isClaim)) := by
  obtain ⟨before, e, after, rfl, hw, hbefore, hafter⟩ := h.split
  have hemem : e ∈ before ++ e :: after := by simp
  have hrank := (h.sent e hemem hw n rfl).1
  have hclaim : n.isClaim = e.notice.isClaim := by rw [Notice.isClaim, Notice.isClaim, hrank]
  have hoffWire : (before ++ after).any (fun e => e.onWire) = false := by
    rw [List.any_eq_false]
    intro d hd
    obtain hd | hd := List.mem_append.mp hd
    · simp [hbefore d hd]
    · simp [hafter d hd]
  have hsub : (before ++ after).Sublist (before ++ e :: after) :=
    List.Sublist.append_left (List.sublist_cons_self _ _) _
  rw [completeEntry_append n after hbefore hw]
  split
  next hc =>
    have hno := (h.changed e hemem hc).2
    have hbare : (before ++ ⟨e.notice.less n, false, false⟩ :: after).map (fun e => bare e.notice) =
        (before ++ e :: after).map (fun e => bare e.notice) := by simp [bare_less]
    refine ⟨⟨?_, hbare ▸ h.distinct, ?_, ?_, fun d hd hdw => ?_, fun d hd hdc => ?_⟩, ?_⟩
    · have hmap : (before ++ ⟨e.notice.less n, false, false⟩ :: after).map (fun e => e.notice.rank) =
          (before ++ e :: after).map (fun e => e.notice.rank) := by
        simp [rank_of_bare (bare_less e.notice n)]
      have := List.pairwise_map.mpr h.ordered
      rw [← hmap] at this
      exact List.pairwise_map.mp this
    · have := h.oneOnWire
      rw [List.countP_append, List.countP_cons] at this ⊢
      rw [if_neg Bool.false_ne_true]
      omega
    · rw [List.any_append, List.any_cons, Bool.false_or, ← List.any_append]
      exact hoffWire
    · rw [List.mem_append, List.mem_cons] at hd
      obtain hd | rfl | hd := hd
      · rw [hbefore d hd] at hdw; exact absurd hdw Bool.false_ne_true
      · exact absurd hdw Bool.false_ne_true
      · rw [hafter d hd] at hdw; exact absurd hdw Bool.false_ne_true
    · rw [List.mem_append, List.mem_cons] at hd
      obtain hd | rfl | hd := hd
      · exact h.changed d (by simp [hd]) hdc
      · exact absurd hdc Bool.false_ne_true
      · exact h.changed d (by simp [hd]) hdc
    · rw [any_isClaim_of_bare hbare, hclaim, hno]
      rfl
  · refine ⟨h.cut hsub hoffWire, ?_⟩
    cases hn : n.isClaim with
    | true =>
      rw [Bool.not_true, Bool.false_and, List.any_eq_false]
      intro d hd hdc
      have hdup := (List.nodup_middle.mp (by simpa using h.distinct :
        (before.map (fun e => bare e.notice) ++ bare e.notice :: after.map (fun e => bare e.notice)).Nodup))
      refine (List.nodup_cons.mp hdup).1 ?_
      rw [← List.map_append]
      refine List.mem_map.mpr ⟨d, hd, ?_⟩
      rw [(isClaim_iff_bare _).mp hdc, (isClaim_iff_bare _).mp (hclaim ▸ hn)]
    | false =>
      rw [Bool.not_false, Bool.true_and]
      simp [← hclaim, hn]

end Sys2Proof.Proofs.SendList
end

section
/-! Every act keeps the send list in order (R114-R116, R119, R148). -/

namespace Sys2Proof.Proofs.SendList

open Sys2Proof Sys2Proof.Machine Sys2Proof.Proofs.Frames Sys2Proof.Proofs.Acts Sys2Proof.Proofs.Counters

/-- The line's list is in order, with a CLAIM exactly where `claim` says so, and empty where the station does not
speak. -/
structure Fits (x : Line) (claim speaks : Bool) : Prop where
  listed : Listed x.sendList x.sending
  quiet : x.driving = true → x.sending = none
  claim : x.sendList.any (fun e => e.notice.isClaim) = claim
  silent : speaks = false → x.sendList = []

/-- The list of a state in which a CLAIM may stand without a CLAIMING flow, or the other way round. -/
def Sends (s : State) (claim : Bool) : Prop := Fits s.line claim s.view.station.speaks

theorem speaks_eq_false (x : StationState) : x.speaks = false ↔ x ≠ .listenIn ∧ x ≠ .active := by
  cases x <;> simp [StationState.speaks]

theorem sendListSound_iff (s : State) : s.SendListSound ↔ Sends s s.adm.claiming.isSome := by
  constructor
  · rintro ⟨hord, hclaim, hload, hyield, hone, hsending, hquiet, hsent, hchanged, hc, hsilent⟩
    exact ⟨⟨hord, (distinct_iff _).mpr ⟨hclaim, hload, hyield⟩, by rwa [List.countP_eq_length_filter], hsending, hsent,
      hchanged⟩, hquiet, hc, fun h => hsilent ((speaks_eq_false _).mp h).1 ((speaks_eq_false _).mp h).2⟩
  · rintro ⟨⟨hord, hdis, hone, hsending, hsent, hchanged⟩, hquiet, hc, hsilent⟩
    obtain ⟨hclaim, hload, hyield⟩ := (distinct_iff _).mp hdis
    exact ⟨hord, hclaim, hload, hyield, by rwa [← List.countP_eq_length_filter], hsending, hquiet, hsent, hchanged, hc,
      fun h1 h2 => hsilent ((speaks_eq_false _).mpr ⟨h1, h2⟩)⟩

section
variable {s t : State} {b : Bool}

theorem Sends.congr (h : Sends s b) (hlist : t.line.sendList = s.line.sendList) (hsending : t.line.sending = s.line.sending)
    (hdriving : t.line.driving = s.line.driving) (hview : t.view.station = s.view.station) : Sends t b := by
  obtain ⟨h1, h2, h3, h4⟩ := h
  exact ⟨by rwa [hlist, hsending], by rwa [hdriving, hsending], by rwa [hlist], by rwa [hlist, hview]⟩

theorem Sends.of_line (h : Sends s b) (hline : t.line = s.line) (hview : t.view.station = s.view.station) : Sends t b :=
  h.congr (by rw [hline]) (by rw [hline]) (by rw [hline]) hview

/-- A change of the list that keeps its order and its CLAIM, in a station that speaks. -/
theorem Sends.modSendList (h : Sends s b) (hs : s.view.station.speaks = true) {g : List SendEntry → List SendEntry}
    {b' : Bool} (hg : Listed (g s.line.sendList) s.line.sending ∧
      (g s.line.sendList).any (fun e => e.notice.isClaim) = b') : Sends (s.modSendList g) b' :=
  ⟨hg.1, h.quiet, hg.2, fun hf => absurd (hs.symm.trans hf) (by decide)⟩

theorem queueYield_sends (h : Sends s b) (legs : Legs) (n : Nat) : Sends (s.queueYield legs n) b := by
  unfold State.queueYield
  split
  next hs => exact h.modSendList hs (h.claim ▸ addYield_listed h.listed _ _)
  · exact h

theorem placeLoad_sends (h : Sends s b) (hs : s.view.station.speaks = true) : Sends s.placeLoad b :=
  h.modSendList hs (h.claim ▸ addLoad_listed h.listed _ _ _)

theorem placeLoadIfSpeaking_sends (h : Sends s b) : Sends s.placeLoadIfSpeaking b := by
  unfold State.placeLoadIfSpeaking
  split
  next hs => exact placeLoad_sends h hs
  · exact h

theorem syncLoad_sends (h : Sends s b) : Sends s.syncLoad b := by
  unfold State.syncLoad
  split
  next hany =>
    refine placeLoad_sends h ?_
    by_contra hs
    rw [h.silent (by simpa using hs)] at hany
    exact absurd hany Bool.false_ne_true
  · exact h

theorem withdrawClaim_sends (h : Sends s b) : Sends s.withdrawClaim false := by
  obtain ⟨hlisted, hnone⟩ := withdrawClaim_listed h.listed
  refine ⟨hlisted, fun hd => ?_, hnone, fun hs => ?_⟩
  · have hdriving : s.line.driving = true := by
      rw [← hd]
      change s.line.driving = s.line.withdrawClaim.driving
      unfold Line.withdrawClaim
      simp only
      split <;> rfl
    change s.line.withdrawClaim.sending = none
    unfold Line.withdrawClaim
    simp only
    split
    · rfl
    · exact h.quiet hdriving
  · change s.line.withdrawClaim.sendList = []
    unfold Line.withdrawClaim
    simp only
    have := h.silent hs
    split <;> simp [this]

/-- The oldest flow that waits is placed with its CLAIM. -/
theorem place_sends (h : Sends s s.adm.claiming.isSome) : s.place.SendListSound := by
  rw [sendListSound_iff]
  unfold State.place
  split
  next hs =>
    split
    next f rest hnone hq =>
      rw [hnone] at h
      have hadd := addClaim_listed h.listed h.claim (s.flow f).params.legs.code (s.flow f).derived.load
      exact ⟨hadd.1, h.quiet, hadd.2, fun hf => absurd hf (by
        rw [State.modSendList_view, State.modFlow_view, hs]
        decide)⟩
    · exact h
  · exact h

/-- After a claim has ended, with its CLAIM off the list, the next flow is placed. -/
theorem placed_sends (h : Sends s false) (hline : t.line = s.line) (hview : t.view = s.view)
    (hclaiming : t.adm.claiming = none) : t.place.SendListSound := by
  refine place_sends ?_
  rw [hclaiming]
  exact h.of_line hline (by rw [hview])

theorem withdrawn_sends (h : Sends s b) (f : FlowId) :
    (s.withdrawClaim.noClaim.withdrawFlow f).place.SendListSound :=
  placed_sends (withdrawClaim_sends h) rfl rfl rfl

theorem claimLeftWire_sends (h : s.SendListSound) : s.claimLeftWire.SendListSound := by
  unfold State.claimLeftWire
  split
  · exact h
  · split
    · exact withdrawn_sends ((sendListSound_iff s).mp h) _
    · exact h

theorem claimTimedOut_sends (h : s.SendListSound) (f : FlowId) : (s.claimTimedOut f).SendListSound := by
  rw [sendListSound_iff] at h
  unfold State.claimTimedOut
  simp only
  split
  · exact withdrawn_sends h f
  · exact placed_sends (withdrawClaim_sends h) rfl rfl rfl

theorem admitFlow_sends (h : Sends s b) (f : FlowId) : Sends (s.admitFlow f) b := by
  have hsync : Sends (State.syncLoad (State.modFlow
      { s with adm := s.adm.gain (s.flow f).params.legs (s.flow f).derived.load } f
        (fun x => { x with state := .armed }))) b :=
    syncLoad_sends (h.of_line rfl rfl)
  exact hsync.of_line rfl rfl

theorem syncLoad_claiming (s : State) : s.syncLoad.adm = s.adm := by
  unfold State.syncLoad
  split <;> rfl

theorem admitFlow_claiming (s : State) (f : FlowId) : (s.admitFlow f).adm.claiming = s.adm.claiming := by
  rw [State.admitFlow, State.emit_adm, syncLoad_claiming]
  rfl

/-- The claim is decided once its CLAIM is off the list (R151, R157). -/
theorem claimCompleted_sends (h : Sends s false) : s.claimCompleted.SendListSound := by
  unfold State.claimCompleted
  split
  next hnone =>
    rw [sendListSound_iff, hnone]
    exact h
  next f _ =>
    have hno : Sends s.noClaim false := h.of_line rfl rfl
    simp only
    split_ifs
    · refine place_sends ?_
      have hy := queueYield_sends hno (s.flow f).params.legs (s.flow f).derived.load
      have hclaiming : (s.noClaim.queueYield (s.flow f).params.legs (s.flow f).derived.load).adm.claiming = none := by
        unfold State.queueYield
        split <;> rfl
      change Sends _ ((s.noClaim.queueYield (s.flow f).params.legs (s.flow f).derived.load).adm.claiming.isSome)
      rw [hclaiming]
      exact hy.of_line rfl rfl
    · exact placed_sends hno rfl rfl rfl
    · refine place_sends ?_
      rw [admitFlow_claiming]
      exact admitFlow_sends hno f
    · exact placed_sends hno rfl rfl rfl

theorem withdrawUndecided_sends (h : s.SendListSound) (f : FlowId) : (s.withdrawUndecided f).SendListSound := by
  rw [sendListSound_iff] at h
  unfold State.withdrawUndecided
  split_ifs
  · exact (sendListSound_iff _).mpr (h.of_line rfl rfl)
  · exact (sendListSound_iff _).mpr (h.of_line rfl rfl)
  · exact withdrawn_sends h f

theorem handOver_sends (h : s.SendListSound) (f : FlowId) : (s.handOver f).SendListSound := by
  rw [sendListSound_iff] at h
  unfold State.handOver
  split
  · split
    · rw [sendListSound_iff, admitFlow_claiming]
      exact admitFlow_sends h f
    · exact (sendListSound_iff _).mpr (h.of_line rfl rfl)
  · exact place_sends (h.of_line rfl rfl)
  · exact (sendListSound_iff _).mpr (h.of_line rfl rfl)
  · exact (sendListSound_iff _).mpr (h.of_line rfl rfl)
  · exact (sendListSound_iff _).mpr (h.of_line rfl rfl)

/-- With the list emptied and every undecided flow refused nothing is left to send. -/
theorem refuseUndecided_sends (code : RefusedCode) (hlist : s.line.sendList = []) (hsending : s.line.sending = none) :
    (s.refuseUndecided code).SendListSound := by
  rw [sendListSound_iff]
  refine ⟨?_, fun _ => ?_, ?_, fun _ => ?_⟩ <;> rw [refuseUndecided_line]
  · rw [hlist, hsending]
    exact listed_nil
  · exact hsending
  · rw [hlist]
    rfl
  · exact hlist

theorem detectDuplicate_sends (h : s.SendListSound) : s.detectDuplicate.SendListSound := by
  unfold State.detectDuplicate
  split
  · exact refuseUndecided_sends _ rfl rfl
  · exact h

/-- A line of which the send list, the notice being sent and the own break stay. -/
theorem sound_of_line (h : s.SendListSound) (hlist : t.line.sendList = s.line.sendList)
    (hsending : t.line.sending = s.line.sending) (hdriving : t.line.driving = s.line.driving)
    (hview : t.view.station = s.view.station) (hadm : t.adm.claiming = s.adm.claiming) : t.SendListSound := by
  rw [sendListSound_iff] at h ⊢
  rw [hadm]
  exact h.congr hlist hsending hdriving hview

/-! ## The receiver -/

theorem setReceiver_sends (h : s.SendListSound) (r : Receiver) : (s.setReceiver r).SendListSound :=
  sound_of_line h rfl rfl rfl rfl rfl

theorem formatError_sends (h : s.SendListSound) : s.formatError.SendListSound := sound_of_line h rfl rfl rfl rfl rfl

theorem applyNotice_sends (h : s.SendListSound) (i : StationId) (n : Notice) : (s.applyNotice i n).SendListSound := by
  have hview : ∀ t : State, ∀ m, (t.applyContent i m).view.station = t.view.station ∧
      (t.applyContent i m).adm = t.adm := by
    intro t m
    unfold State.applyContent
    simp only
    split
    · exact ⟨rfl, rfl⟩
    · split <;> exact ⟨rfl, rfl⟩
    · exact ⟨rfl, rfl⟩
  have hhear : (s.hearPeer i).view.station = s.view.station ∧ (s.hearPeer i).adm = s.adm := by
    unfold State.hearPeer
    split <;> exact ⟨rfl, rfl⟩
  have hline := applyNotice_line s i n
  refine sound_of_line h (by rw [hline]) (by rw [hline]) (by rw [hline]) ?_ ?_
  · exact (hview _ n).1.trans hhear.1
  · rw [State.applyNotice, (hview _ n).2, hhear.2]

theorem judgeNotice_sends (h : s.SendListSound) (cs : List Byte) : (s.judgeNotice cs).SendListSound := by
  unfold State.judgeNotice
  split
  · exact sound_of_line h rfl rfl rfl rfl rfl
  · split
    · split
      · unfold State.handOn
        split
        · exact detectDuplicate_sends h
        · exact applyNotice_sends h _ _
      · exact formatError_sends h
    · exact formatError_sends h

theorem takeHeader_sends (h : s.SendListSound) (value : Byte) : (s.takeHeader value).SendListSound := by
  unfold State.takeHeader
  split
  · exact setReceiver_sends h _
  · exact formatError_sends (setReceiver_sends h _)

theorem addCharacter_sends (h : s.SendListSound) (cs : List Byte) (value : Byte) :
    (s.addCharacter cs value).SendListSound := by
  unfold State.addCharacter
  simp only
  split
  · split_ifs
    · exact setReceiver_sends h _
    · exact setReceiver_sends h _
    · exact judgeNotice_sends (setReceiver_sends h _) _
  · exact setReceiver_sends h _

theorem takeCharacter_sends (h : s.SendListSound) (value : Byte) (mark : Bool) :
    (s.takeCharacter value mark).SendListSound := by
  have hstop : (atStopBit s).SendListSound := by
    unfold atStopBit
    simp only
    split
    · exact detectDuplicate_sends (sound_of_line h rfl rfl rfl rfl rfl)
    · exact sound_of_line h rfl rfl rfl rfl rfl
  obtain e | e | ⟨cs, -, e⟩ | e | e := takeCharacter_cases s value mark <;> rw [e]
  · exact h
  · exact hstop
  · exact addCharacter_sends hstop cs value
  · exact takeHeader_sends (formatError_sends (setReceiver_sends hstop _)) value
  · exact takeHeader_sends hstop value

theorem wireFree_line (s : State) : ∃ r c, s.wireFree = s.modLine (fun x => { x with receiver := r, counters := c }) := by
  unfold State.wireFree
  split
  · exact ⟨_, _, rfl⟩
  · exact ⟨s.line.receiver, s.line.counters, rfl⟩
  · exact ⟨_, _, rfl⟩

/-! ## Sending -/

/-- The notice being sent leaves the wire with its entry pending (R118). -/
theorem leaveWire_sends (h : s.SendListSound) : (s.modLine Line.leaveWire).SendListSound := by
  rw [sendListSound_iff] at h ⊢
  obtain ⟨hlisted, hclaim⟩ := leave_listed h.listed
  exact ⟨hlisted, fun _ => rfl, hclaim.trans h.claim, fun hs => by
    change List.map _ s.line.sendList = []
    rw [h.silent hs]
    rfl⟩

theorem loseArbitration_sends (h : s.SendListSound) (n : Notice) : (s.loseArbitration n).SendListSound := by
  unfold State.loseArbitration
  simp only
  split
  · exact claimLeftWire_sends (sound_of_line (leaveWire_sends h) rfl rfl rfl rfl rfl)
  · exact sound_of_line (leaveWire_sends h) rfl rfl rfl rfl rfl

theorem completeNotice_sends (h : s.SendListSound) {n : Notice} (hn : s.line.sending = some n) :
    (s.completeNotice n).SendListSound := by
  rw [sendListSound_iff] at h
  obtain ⟨hlisted, hclaim⟩ := completeEntry_listed (hn ▸ h.listed)
  have hsilent (hs : s.view.station.speaks = false) : completeEntry n s.line.sendList = [] := by
    rw [h.silent hs]
    rfl
  rw [h.claim] at hclaim
  unfold State.completeNotice
  simp only
  split
  next hc =>
    refine claimCompleted_sends ⟨hlisted, fun _ => rfl, ?_, hsilent⟩
    rw [hc] at hclaim
    exact hclaim
  next hc =>
    rw [sendListSound_iff]
    refine ⟨hlisted, fun _ => rfl, ?_, hsilent⟩
    rw [Bool.not_eq_true] at hc
    rw [hc] at hclaim
    exact hclaim

theorem startNotice_sends (h : s.SendListSound) (hs : s.view.station.speaks = true) (hsending : s.line.sending = none)
    (hdriving : s.line.driving = false) (hlist : s.line.sendList ≠ []) : s.startNotice.SendListSound := by
  obtain ⟨r, c, hfree⟩ := wireFree_line s
  obtain ⟨e, es, hes⟩ := List.exists_cons_of_ne_nil hlist
  rw [sendListSound_iff] at h ⊢
  have hlisted := h.listed
  have hclaim := h.claim
  rw [hes, hsending] at hlisted
  rw [hes] at hclaim
  rw [State.startNotice, hfree]
  refine ⟨?_, fun hd => absurd (hdriving.symm.trans hd) (by decide), ?_,
    fun hf => absurd (hs.symm.trans hf) (by decide)⟩
  · change Listed (markHead s.line.sendList) (s.line.sendList.head?.map (fun e => e.notice))
    rw [hes]
    exact (markHead_listed hlisted).1
  · change (markHead s.line.sendList).any _ = _
    rw [hes]
    exact (markHead_listed hlisted).2.trans hclaim

theorem startBreak_sends (h : s.SendListSound) (hsending : s.line.sending = none) :
    (s.wireFree.modLine (fun x =>
      { x with driving := true, freePoint := .normal, bodyLoss := false, bits := .zero })).SendListSound := by
  obtain ⟨r, c, hfree⟩ := wireFree_line s
  rw [sendListSound_iff] at h ⊢
  rw [hfree]
  exact ⟨h.listed, fun _ => hsending, h.claim, h.silent⟩

theorem hearBreak_sends (h : s.SendListSound) : s.hearBreak.SendListSound := by
  have hnoted : (breakNoted s).SendListSound := sound_of_line h rfl rfl rfl rfl rfl
  have hload {t : State} (ht : t.SendListSound) : t.placeLoadIfSpeaking.SendListSound := by
    rw [sendListSound_iff] at ht ⊢
    have hadm : t.placeLoadIfSpeaking.adm = t.adm := by
      unfold State.placeLoadIfSpeaking
      split <;> rfl
    rw [hadm]
    exact placeLoadIfSpeaking_sends ht
  rw [hearBreak_eq]
  refine hload ?_
  split
  · split
    · exact claimLeftWire_sends (leaveWire_sends hnoted)
    · exact leaveWire_sends hnoted
  · exact hnoted

theorem completeBreak_sends (h : s.SendListSound) (hs : s.view.station = .listenIn) : s.completeBreak.SendListSound := by
  rw [sendListSound_iff] at h ⊢
  have hended : Sends (s.modLine (fun x =>
      { x with driving := false, pendingBreak := false, receiver := .waitFree, freePoint := .normal, bits := .zero }))
      s.adm.claiming.isSome :=
    ⟨h.listed, fun hd => absurd hd Bool.false_ne_true, h.claim, h.silent⟩
  exact (placeLoad_sends hended (by change s.view.station.speaks = true; rw [hs]; rfl)).of_line rfl rfl

theorem place_station (s : State) : s.place.view = s.view := by
  unfold State.place
  split
  · split <;> rfl
  · rfl

theorem hearBreak_view (s : State) : s.hearBreak.view = s.view := by
  have hload (t : State) : t.placeLoadIfSpeaking.view = t.view := by
    unfold State.placeLoadIfSpeaking
    split <;> rfl
  have hleft (t : State) : t.claimLeftWire.view = t.view := by
    unfold State.claimLeftWire
    split
    · rfl
    · split
      · exact place_station _
      · rfl
  rw [hearBreak_eq, hload]
  split
  · split
    · exact hleft _
    · rfl
  · rfl

theorem agePeers_view (s : State) : s.agePeers.view.station = s.view.station ∧ s.agePeers.adm = s.adm := by
  have hage (t : State) (i : StationId) : (t.agePeer i).view.station = t.view.station ∧ (t.agePeer i).adm = t.adm := by
    unfold State.agePeer
    simp only
    split_ifs <;> exact ⟨rfl, rfl⟩
  unfold State.agePeers
  split
  · exact ⟨StationTime.foldl_keeps (fun t : State => t.view.station) (fun t i => (hage t i).1) _ s,
      StationTime.foldl_keeps State.adm (fun t i => (hage t i).2) _ s⟩
  · exact ⟨rfl, rfl⟩

/-! ## Every act -/

theorem sends_of_admAct (h : AdmAct s t) (hs : s.SendListSound) : t.SendListSound := by
  cases h with
  | declare f d p => exact handOver_sends (s := s.modFlow f (fun x => x.declared p)) (sound_of_line hs rfl rfl rfl rfl rfl) f
  | withdraw f => exact withdrawUndecided_sends hs f
  | claimTimeout f d => exact claimTimedOut_sends (s := s.reach d) (sound_of_line hs rfl rfl rfl rfl rfl) f
  | clock d => exact sound_of_line hs rfl rfl rfl rfl rfl
  | character value mark => exact takeCharacter_sends hs value mark
  | framingError => exact sound_of_line hs rfl rfl rfl rfl rfl
  | wireFree =>
    obtain ⟨r, c, hfree⟩ := wireFree_line s
    rw [hfree]
    exact sound_of_line hs rfl rfl rfl rfl rfl
  | noticeStart hspeaks hsending hdriving hlist => exact startNotice_sends hs hspeaks hsending hdriving hlist
  | loss n => exact loseArbitration_sends hs n
  | complete n hn => exact completeNotice_sends hs hn
  | breakStart _ hsending => exact startBreak_sends hs hsending
  | breakHeard => exact hearBreak_sends hs
  | breakComplete _ hst => exact completeBreak_sends hs hst
  | breakHeld _ hst => exact completeBreak_sends (hearBreak_sends hs) (by rw [hearBreak_view]; exact hst)
  | stuck =>
    rw [stuck_eq]
    split
    · exact refuseUndecided_sends _ rfl rfl
    · unfold atStuckWire
      split
      · exact sound_of_line (hearBreak_sends hs) rfl rfl rfl rfl rfl
      · exact sound_of_line hs rfl rfl rfl rfl rfl
  | restored hst =>
    rw [sendListSound_iff] at hs ⊢
    have hlist : s.line.sendList = [] := hs.silent (by rw [hst]; rfl)
    exact ⟨hs.listed, hs.quiet, hs.claim, fun _ => hlist⟩
  | listened d hst =>
    rw [sendListSound_iff] at hs
    have hactive : Sends ((s.reach d).setStation .active) s.adm.claiming.isSome :=
      ⟨hs.listed, hs.quiet, hs.claim, fun hf => absurd (show StationState.active.speaks = false from hf) (by decide)⟩
    exact place_sends (hactive.of_line rfl rfl)
  | refresh =>
    obtain ⟨hview, hadm⟩ := agePeers_view s.restartRefresh
    have hline := agePeers_line s.restartRefresh
    have haged : s.restartRefresh.agePeers.SendListSound :=
      sound_of_line hs (by rw [hline]; rfl) (by rw [hline]; rfl) (by rw [hline]; rfl) hview (by rw [hadm]; rfl)
    rw [sendListSound_iff] at haged ⊢
    have hload : s.restartRefresh.agePeers.placeLoadIfSpeaking.adm = s.restartRefresh.agePeers.adm := by
      unfold State.placeLoadIfSpeaking
      split <;> rfl
    rw [hload]
    exact placeLoadIfSpeaking_sends haged

theorem detach_keeps (s : State) (f : FlowId) (l : Leg) :
    (s.detach f l).line = s.line ∧ (s.detach f l).view = s.view ∧ (s.detach f l).adm = s.adm := by
  unfold State.detach
  split
  · split
    · exact ⟨State.modLeg_line _ _ _, State.modLeg_view _ _ _, State.modLeg_adm _ _ _⟩
    · exact ⟨rfl, rfl, rfl⟩
  · exact ⟨rfl, rfl, rfl⟩

/-- The freed flow's load is given back to the own entry, with its notices still to be queued (R155, R156). -/
def gaveBack (s : State) (f : FlowId) : State :=
  let s1 := ((s.modFlow f Flow.freed).detach f .a).detach f .b
  { s1 with adm := s1.adm.give (s.flow f).params.legs (s.flow f).derived.load }

theorem flowToFree_eq (s : State) (f : FlowId) (reason : ClosedReason) :
    s.flowToFree f reason = (((gaveBack s f).queueYield (s.flow f).params.legs (s.flow f).derived.load).syncLoad).emitClosed
      f reason := rfl

theorem gaveBack_keeps (s : State) (f : FlowId) : (gaveBack s f).line = s.line ∧ (gaveBack s f).view = s.view ∧
    (gaveBack s f).adm = s.adm.give (s.flow f).params.legs (s.flow f).derived.load := by
  obtain ⟨h1, h2, h3⟩ := detach_keeps (s.modFlow f Flow.freed) f .a
  obtain ⟨k1, k2, k3⟩ := detach_keeps ((s.modFlow f Flow.freed).detach f .a) f .b
  refine ⟨k1.trans h1, k2.trans h2, ?_⟩
  rw [gaveBack, k3, h3]
  rfl

theorem queueYield_keeps_adm (s : State) (legs : Legs) (n : Nat) : (s.queueYield legs n).adm = s.adm := by
  unfold State.queueYield
  split <;> rfl

theorem flowToFree_adm_eq (s : State) (f : FlowId) (reason : ClosedReason) :
    (s.flowToFree f reason).adm = s.adm.give (s.flow f).params.legs (s.flow f).derived.load := by
  rw [flowToFree_eq, State.emitClosed, State.emit_adm, syncLoad_claiming, queueYield_keeps_adm, (gaveBack_keeps s f).2.2]

theorem flowToFree_sends (h : s.SendListSound) (f : FlowId) (reason : ClosedReason) :
    (s.flowToFree f reason).SendListSound := by
  rw [sendListSound_iff] at h ⊢
  obtain ⟨hline, hview, -⟩ := gaveBack_keeps s f
  rw [flowToFree_adm_eq, flowToFree_eq]
  have hgave : Sends (gaveBack s f) s.adm.claiming.isSome := h.of_line hline (by rw [hview])
  exact (syncLoad_sends (queueYield_sends hgave _ _)).of_line rfl rfl

theorem afterReset_sends (straps : Straps) (a b z : Bool) (pending : List Instr) :
    (State.afterReset straps a b z pending).SendListSound :=
  (sendListSound_iff _).mpr ⟨listed_nil, fun _ => rfl, rfl, fun _ => rfl⟩

/-- Settles O57: the additions insert or change one entry, the removals take entries out, and a CLAIM comes and goes
with the CLAIMING flow. -/
theorem everyStepKeepsTheSendList : Obligations.EveryStepKeepsTheSendList := by
  intro s t hs hstep
  obtain rfl | ⟨c, rest, h⟩ := act_of_step hstep
  · exact hs
  have hs : State.SendListSound { s with pending := rest } := sound_of_line hs rfl rfl rfl rfl rfl
  have hdata {u : State} (h : DataAct { s with pending := rest } c u) : u.SendListSound := by
    have hstep := h.step
    exact sound_of_line hs (by rw [hstep.line]) (by rw [hstep.line]) (by rw [hstep.line]) (by rw [hstep.view])
      (by rw [hstep.adm])
  cases h with
  | hold => exact sound_of_line hs rfl rfl rfl rfl rfl
  | reset straps a b z => exact afterReset_sends straps a b z rest
  | data h => exact hdata h
  | adm h => exact sends_of_admAct h hs
  | ended f reason h => exact flowToFree_sends (hdata h) f reason

end

end Sys2Proof.Proofs.SendList
end

section
/-! The Admission Unit: what each of its operations leaves of the flows and of its own record, that the claim queue
stays consistent with the flow states (R146, R157), and that the own entry is the sum of the loads held (R155). -/

namespace Sys2Proof.Proofs.Admission

open Sys2Proof Sys2Proof.Machine Sys2Proof.Proofs.Frames Sys2Proof.Proofs.Acts

variable (s : State)

/-! ## What the operations leave -/

theorem flow_modFlow (f g : FlowId) (k : Flow → Flow) :
    (s.modFlow f k).flow g = if g = f then k (s.flow f) else s.flow g := by
  rw [State.modFlow, State.flow_setFlow]

theorem flow_withdrawFlow (f g : FlowId) :
    (s.withdrawFlow f).flow g = if g = f then (s.flow f).freed else s.flow g := flow_modFlow s f g Flow.freed

theorem flow_refuseFlow (code : RefusedCode) (f g : FlowId) :
    (s.refuseFlow code f).flow g = if g = f then (s.flow f).freed else s.flow g := flow_modFlow s f g Flow.freed

theorem freed_freed (x : Flow) : x.freed.freed = x.freed := rfl

theorem syncLoad_flow (f : FlowId) : s.syncLoad.flow f = s.flow f := by
  unfold State.syncLoad
  split <;> rfl

theorem queueYield_flow (legs : Legs) (n : Nat) (f : FlowId) : (s.queueYield legs n).flow f = s.flow f := by
  unfold State.queueYield
  split <;> rfl

theorem syncLoad_view : s.syncLoad.view = s.view := by
  unfold State.syncLoad
  split <;> rfl

theorem queueYield_view (legs : Legs) (n : Nat) : (s.queueYield legs n).view = s.view := by
  unfold State.queueYield
  split <;> rfl

theorem flow_admitFlow (f g : FlowId) :
    (s.admitFlow f).flow g = if g = f then { s.flow f with state := .armed } else s.flow g := by
  rw [State.admitFlow, State.flow_emit, syncLoad_flow]
  exact flow_modFlow { s with adm := s.adm.gain (s.flow f).params.legs (s.flow f).derived.load } f g
    (fun x => { x with state := .armed })

theorem admitFlow_adm_eq (f : FlowId) :
    (s.admitFlow f).adm = s.adm.gain (s.flow f).params.legs (s.flow f).derived.load := by
  rw [State.admitFlow, State.emit_adm, SendList.syncLoad_claiming]
  rfl

theorem admitFlow_view (f : FlowId) : (s.admitFlow f).view = s.view := by
  rw [State.admitFlow, State.emit_view, syncLoad_view]
  rfl

/-- Placement leaves the state as it is, or the oldest flow that waits is placed (R148). -/
theorem place_cases : s.place = s ∨
    ∃ f rest, s.view.station = .active ∧ s.adm.claiming = none ∧ s.adm.claimQueue = f :: rest ∧
      s.place = { s.setFlow f { s.flow f with state := .claiming } with
        adm := { s.adm with claimQueue := rest, claiming := some f, claimTimer := some (s.ownClock + Config.claimNs) }
        line := { s.line with
          sendList := addClaim (s.flow f).params.legs.code (s.flow f).derived.load s.line.sendList } } := by
  unfold State.place
  split
  next hactive =>
    split
    next f rest hnone hq => exact .inr ⟨f, rest, hactive, hnone, hq, rfl⟩
    · exact .inl rfl
  · exact .inl rfl

/-- The flows refused one after another are FREE, each with its record in the outcome queue. -/
theorem foldl_refuseFlow (code : RefusedCode) (fs : List FlowId) :
    (∀ g, (fs.foldl (fun t f => t.refuseFlow code f) s).flow g =
        if g ∈ fs then (s.flow g).freed else s.flow g) ∧
      fs.foldl (fun t f => t.refuseFlow code f) s =
        { s with
          flows := (fs.foldl (fun t f => t.refuseFlow code f) s).flows
          port := (fs.map (fun f => Outcome.flowRefused f code)).foldl (fun p o => p.add s.stationTime o) s.port } := by
  induction fs generalizing s with
  | nil => exact ⟨fun _ => rfl, rfl⟩
  | cons f fs ih =>
    obtain ⟨hflow, hrest⟩ := ih (s.refuseFlow code f)
    refine ⟨fun g => ?_, ?_⟩
    · rw [List.foldl_cons, hflow, flow_refuseFlow]
      by_cases hgf : g = f
      · subst hgf
        simp [freed_freed]
      · simp [hgf]
    · rw [List.foldl_cons, hrest]
      rfl

/-- The CLAIMING flow ends before the claim queue is refused (R153). -/
def claimingRefused (code : RefusedCode) : State :=
  match s.adm.claiming with
  | some f => if (s.flow f).cancel then s.withdrawFlow f else s.refuseFlow code f
  | none => s

theorem claimingRefused_eq (code : RefusedCode) :
    (∀ g, (claimingRefused s code).flow g = if s.adm.claiming = some g then (s.flow g).freed else s.flow g) ∧
      claimingRefused s code = { s with flows := (claimingRefused s code).flows, port := (claimingRefused s code).port } := by
  have hswap (f g : FlowId) :
      (if g = f then (s.flow f).freed else s.flow g) = if some f = some g then (s.flow g).freed else s.flow g := by
    by_cases h : g = f
    · subst h; simp
    · rw [if_neg h, if_neg (by simpa using Ne.symm h)]
  unfold claimingRefused
  split
  next f hf =>
    rw [hf]
    split
    · exact ⟨fun g => (flow_withdrawFlow s f g).trans (hswap f g), rfl⟩
    · exact ⟨fun g => (flow_refuseFlow s code f g).trans (hswap f g), rfl⟩
  next hf =>
    rw [hf]
    exact ⟨fun g => by simp, rfl⟩

theorem refuseUndecided_eq (code : RefusedCode) : s.refuseUndecided code =
    { s.adm.claimQueue.foldl (fun t f => t.refuseFlow code f) (claimingRefused s code) with
      adm := { s.adm with claimQueue := [], claiming := none, claimTimer := none } } := by
  obtain ⟨-, hrest⟩ := claimingRefused_eq s code
  have hadm : (claimingRefused s code).adm = s.adm := by rw [hrest]
  have hfold : ((claimingRefused s code).adm.claimQueue.foldl (fun t f => t.refuseFlow code f)
      (claimingRefused s code)).adm = s.adm := by
    rw [(foldl_refuseFlow _ code _).2]
    exact hadm
  have hdef (s2 : State) (h2 : s2.adm = s.adm)
      (he : s.refuseUndecided code =
        { s2 with adm := { s2.adm with claimQueue := [], claiming := none, claimTimer := none } }) :
      s.refuseUndecided code = { s2 with adm := { s.adm with claimQueue := [], claiming := none, claimTimer := none } } := by
    rw [he, h2]
  have h := hdef _ hfold rfl
  rwa [hadm] at h

theorem flow_refuseUndecided (code : RefusedCode) (g : FlowId) : (s.refuseUndecided code).flow g =
    if g ∈ s.adm.claimQueue ∨ s.adm.claiming = some g then (s.flow g).freed else s.flow g := by
  have hread : (s.refuseUndecided code).flow g = (s.adm.claimQueue.foldl (fun t f => t.refuseFlow code f)
      (claimingRefused s code)).flow g := by
    rw [refuseUndecided_eq]
    rfl
  rw [hread, (foldl_refuseFlow _ code _).1, (claimingRefused_eq s code).1]
  by_cases hq : g ∈ s.adm.claimQueue <;> by_cases hc : s.adm.claiming = some g <;> simp [hq, hc, freed_freed]

theorem refuseUndecided_adm_eq (code : RefusedCode) :
    (s.refuseUndecided code).adm = { s.adm with claimQueue := [], claiming := none, claimTimer := none } := by
  rw [refuseUndecided_eq]

theorem detach_flow (f : FlowId) (l : Leg) (g : FlowId) : (s.detach f l).flow g = s.flow g := by
  unfold State.detach
  split
  · split
    · exact State.flow_setLeg s l _ g
    · rfl
  · rfl

theorem flow_flowToFree (f : FlowId) (reason : ClosedReason) (g : FlowId) :
    (s.flowToFree f reason).flow g = if g = f then (s.flow f).freed else s.flow g := by
  rw [SendList.flowToFree_eq, State.emitClosed, State.flow_emit, syncLoad_flow, queueYield_flow]
  change (((s.modFlow f Flow.freed).detach f .a).detach f .b).flow g = _
  rw [detach_flow, detach_flow, flow_modFlow]

theorem flowToFree_view (f : FlowId) (reason : ClosedReason) : (s.flowToFree f reason).view = s.view := by
  rw [SendList.flowToFree_eq, State.emitClosed, State.emit_view, syncLoad_view, queueYield_view,
    (SendList.gaveBack_keeps s f).2.1]

end Sys2Proof.Proofs.Admission
end

section
/-! The moves of admission: every act of admission and of the peer line is a chain of these, so that an invariant of the
flow records and of the Admission Unit is proved move by move. -/

namespace Sys2Proof.Proofs.Admission

open Sys2Proof Sys2Proof.Machine Sys2Proof.Proofs.Frames Sys2Proof.Proofs.Acts

/-- One flow of the table is changed. -/
def Alters (s t : State) (f : FlowId) (y : Flow) : Prop := ∀ g, t.flow g = if g = f then y else s.flow g

/-- What happens to the flows, to the Admission Unit and to the station state. -/
inductive Moved (s t : State) : Prop
  | still (hadm : t.adm = s.adm) (hstation : t.view.station = s.view.station) (hflow : ∀ g, t.flow g = s.flow g)
  | station (hadm : t.adm = s.adm) (hflow : ∀ g, t.flow g = s.flow g) (hidle : s.view.station ≠ .active)
  | placed (f : FlowId) (rest : List FlowId) (timer : Nat) (hstation : t.view.station = .active)
    (hnone : s.adm.claiming = none) (hq : s.adm.claimQueue = f :: rest)
    (hadm : t.adm = { s.adm with claimQueue := rest, claiming := some f, claimTimer := some timer })
    (hflow : Alters s t f { s.flow f with state := .claiming })
  | ended (f : FlowId) (hf : s.adm.claiming = some f) (hadm : t.adm = { s.adm with claiming := none, claimTimer := none })
    (hflow : Alters s t f (s.flow f).freed)
  | admitted (f : FlowId) (hf : s.adm.claiming = some f) (hfits : s.claimFits f = true)
    (hadm : t.adm = Admission.gain { s.adm with claiming := none, claimTimer := none } (s.flow f).params.legs
      (s.flow f).derived.load)
    (hflow : Alters s t f { s.flow f with state := .armed })
  | dequeued (f : FlowId) (hf : (s.flow f).state = .claimWait) (hstation : t.view.station = s.view.station)
    (hadm : t.adm = { s.adm with claimQueue := s.adm.claimQueue.filter (fun g => g != f) })
    (hflow : Alters s t f (s.flow f).freed)
  | marked (f : FlowId) (hf : (s.flow f).state = .claiming) (hadm : t.adm = s.adm)
    (hstation : t.view.station = s.view.station) (hflow : Alters s t f { s.flow f with cancel := true })
  | declared (f : FlowId) (d : Declaration) (p : Params) (hp : validate s.straps d = .inr p)
    (hf : (s.flow f).state = .free) (hstation : t.view.station = s.view.station)
    (hadm : t.adm = { s.adm with claimQueue := s.adm.claimQueue ++ [f] })
    (hflow : Alters s t f ((s.flow f).declared p))
  | armed (f : FlowId) (d : Declaration) (p : Params) (hp : validate s.straps d = .inr p)
    (hf : (s.flow f).state = .free) (hstation : t.view.station = s.view.station)
    (hfits : (s.modFlow f (fun x => x.declared p)).claimFits f = true)
    (hadm : t.adm = s.adm.gain p.legs p.derive.load)
    (hflow : Alters s t f { (s.flow f).declared p with state := .armed })
  | refused (f : FlowId) (d : Declaration) (p : Params) (hp : validate s.straps d = .inr p)
    (hf : (s.flow f).state = .free) (hstation : t.view.station = s.view.station) (hadm : t.adm = s.adm)
    (hflow : Alters s t f ((s.flow f).declared p).freed)
  | cleared (hadm : t.adm = { s.adm with claimQueue := [], claiming := none, claimTimer := none })
    (hflow : ∀ g, t.flow g =
      if g ∈ s.adm.claimQueue ∨ s.adm.claiming = some g then (s.flow g).freed else s.flow g)

/-- A move, with the straps and the Cell Store as they were. -/
structure Move (s t : State) : Prop where
  straps : t.straps = s.straps
  store : t.store = s.store
  moved : Moved s t

abbrev Moves : State → State → Prop := Relation.ReflTransGen Move

theorem Move.moves {s t : State} (h : Move s t) : Moves s t := .single h

section
variable {s t u : State}

/-- Nothing of the flows, of the Admission Unit and of the station state. -/
theorem still (hk : AdmStep s t) (hadm : t.adm = s.adm) (hstation : t.view.station = s.view.station)
    (hflow : ∀ g, t.flow g = s.flow g) : Moves s t :=
  Move.moves ⟨hk.straps, hk.store, .still hadm hstation hflow⟩

theorem still_modLine (g : Line → Line) : Moves s (s.modLine g) :=
  still (modLine_adm s g) rfl rfl fun _ => rfl

theorem place_moves (s : State) : Moves s s.place := by
  obtain e | ⟨f, rest, hactive, hnone, hq, e⟩ := place_cases s
  · rw [e]
  · have hk := place_adm s
    refine Move.moves ⟨hk.straps, hk.store, ?_⟩
    rw [e]
    exact .placed f rest _ hactive hnone hq rfl (flow_modFlow s f · (fun x => { x with state := .claiming }))

/-- The claim of the CLAIMING flow has ended; the next flow is placed. -/
theorem ended_moves {f : FlowId} (hf : s.adm.claiming = some f) (hk : AdmStep s t)
    (hadm : t.adm = { s.adm with claiming := none, claimTimer := none }) (hflow : Alters s t f (s.flow f).freed) :
    Moves s t.place :=
  (Move.moves ⟨hk.straps, hk.store, .ended f hf hadm hflow⟩).trans (place_moves t)

theorem withdrawn_moves {f : FlowId} (hf : s.adm.claiming = some f) :
    Moves s (s.withdrawClaim.noClaim.withdrawFlow f).place :=
  ended_moves hf (((withdrawClaim_adm s).trans (noClaim_adm _)).trans (withdrawFlow_adm _ f)) rfl
    (flow_withdrawFlow s.withdrawClaim.noClaim f)

theorem claimLeftWire_moves (s : State) : Moves s s.claimLeftWire := by
  unfold State.claimLeftWire
  split
  · exact .refl
  next f hf =>
    split
    · exact withdrawn_moves hf
    · exact .refl

theorem claimTimedOut_moves {f : FlowId} (hf : s.adm.claiming = some f) : Moves s (s.claimTimedOut f) := by
  unfold State.claimTimedOut
  simp only
  split
  · exact withdrawn_moves hf
  · exact ended_moves hf (((withdrawClaim_adm s).trans (noClaim_adm _)).trans (refuseFlow_adm _ _ f)) rfl
      (flow_refuseFlow s.withdrawClaim.noClaim _ f)

theorem claimCompleted_moves (s : State) : Moves s s.claimCompleted := by
  unfold State.claimCompleted
  split
  · exact .refl
  next f hf =>
    simp only
    split_ifs with hcancel hfits hfits
    · refine ended_moves hf (((noClaim_adm s).trans (queueYield_adm _ _ _)).trans (withdrawFlow_adm _ f)) ?_ fun g => ?_
      · exact SendList.queueYield_keeps_adm s.noClaim _ _
      · rw [flow_withdrawFlow, queueYield_flow, queueYield_flow]
        rfl
    · exact ended_moves hf ((noClaim_adm s).trans (withdrawFlow_adm _ f)) rfl (flow_withdrawFlow s.noClaim f)
    · have hk := (noClaim_adm s).trans (admitFlow_adm _ f)
      refine (Move.moves ⟨hk.straps, hk.store, .admitted f hf hfits ?_ ?_⟩).trans (place_moves _)
      · exact admitFlow_adm_eq s.noClaim f
      · exact flow_admitFlow s.noClaim f
    · exact ended_moves hf ((noClaim_adm s).trans (refuseFlow_adm _ _ f)) rfl (flow_refuseFlow s.noClaim _ f)

theorem withdrawUndecided_moves (hs : s.ClaimsConsistent) {f : FlowId}
    (hf : (s.flow f).state = .claimWait ∨ (s.flow f).state = .claiming) : Moves s (s.withdrawUndecided f) := by
  have hk := withdrawUndecided_adm s f
  unfold State.withdrawUndecided at hk ⊢
  split_ifs at hk ⊢ with hwait hwire
  · exact Move.moves ⟨hk.straps, hk.store, .dequeued f hwait rfl rfl
      (flow_withdrawFlow { s with adm := { s.adm with claimQueue := s.adm.claimQueue.filter (fun g => g != f) } } f)⟩
  · exact Move.moves ⟨hk.straps, hk.store, .marked f (hf.resolve_left hwait) rfl rfl
      (flow_modFlow s f · (fun x => { x with cancel := true }))⟩
  · obtain ⟨-, -, hclaiming, -, -⟩ := hs
    exact withdrawn_moves ((hclaiming f).mpr (hf.resolve_left hwait))

theorem alters_declared (s : State) (f : FlowId) (p : Params) (g : FlowId) :
    (s.modFlow f (fun x => x.declared p)).flow g = if g = f then (s.flow f).declared p else s.flow g :=
  flow_modFlow s f g (fun x => x.declared p)

/-- A declared flow waits in the claim queue (R147). -/
def queued (s : State) (f : FlowId) (p : Params) : State :=
  { s.modFlow f (fun x => x.declared p) with adm := { s.adm with claimQueue := s.adm.claimQueue ++ [f] } }

theorem declare_moves {f : FlowId} {d : Declaration} {p : Params} (hf : (s.flow f).state = .free)
    (hp : validate s.straps d = .inr p) : Moves s ((s.modFlow f (fun x => x.declared p)).handOver f) := by
  have hself : (s.modFlow f (fun x => x.declared p)).flow f = (s.flow f).declared p := by
    rw [alters_declared, if_pos rfl]
  have hother {y : Flow} (g : FlowId) :
      (if g = f then y else (s.modFlow f (fun x => x.declared p)).flow g) = if g = f then y else s.flow g := by
    rw [alters_declared]
    split <;> rfl
  have hk := declared_adm s f p
  have hrefuse (code : RefusedCode) : Moves s ((s.modFlow f (fun x => x.declared p)).refuseFlow code f) := by
    refine Move.moves ⟨rfl, rfl, .refused f d p hp hf rfl rfl fun g => ?_⟩
    rw [flow_refuseFlow, hself, hother]
  unfold State.handOver at hk ⊢
  split at hk
  · split at hk
    next hfits =>
      rw [if_pos hfits]
      refine Move.moves ⟨hk.straps, hk.store, .armed f d p hp hf ?_ hfits ?_ fun g => ?_⟩
      · rw [admitFlow_view]; rfl
      · rw [admitFlow_adm_eq, hself]; rfl
      · rw [flow_admitFlow, hself, hother]
    next hfits =>
      rw [if_neg hfits]
      exact hrefuse _
  · exact Relation.ReflTransGen.trans (b := queued s f p)
      (Move.moves ⟨rfl, rfl, .declared f d p hp hf rfl rfl (alters_declared s f p)⟩) (place_moves _)
  · exact Move.moves ⟨rfl, rfl, .declared f d p hp hf rfl rfl (alters_declared s f p)⟩
  · exact hrefuse _
  · exact hrefuse _

theorem refuseUndecided_moves (code : RefusedCode) (hadm : s.adm = u.adm) (hflow : ∀ g, s.flow g = u.flow g)
    (hk : AdmStep u s) : Moves u (s.refuseUndecided code) := by
  have hk := hk.trans (refuseUndecided_adm s code)
  refine Move.moves ⟨hk.straps, hk.store, .cleared ?_ fun g => ?_⟩
  · rw [refuseUndecided_adm_eq, hadm]
  · rw [flow_refuseUndecided, hadm, hflow]

theorem detectDuplicate_moves (s : State) : Moves s s.detectDuplicate := by
  unfold State.detectDuplicate
  split
  · exact refuseUndecided_moves _ rfl (fun _ => rfl)
      (((setStation_adm s _).trans (setLine_adm _ _)).trans (emit_adm _ _))
  · exact .refl

theorem enterIsolated_moves (s : State) : Moves s s.enterIsolated :=
  refuseUndecided_moves _ rfl (fun _ => rfl) (((setStation_adm s _).trans (setLine_adm _ _)).trans (emit_adm _ _))

/-! ### The receiver and the line -/

theorem applyNotice_moves (s : State) (i : StationId) (n : Notice) : Moves s (s.applyNotice i n) := by
  have hcontent (t : State) (m : Notice) : (t.applyContent i m).view.station = t.view.station ∧
      (t.applyContent i m).adm = t.adm ∧ ∀ g, (t.applyContent i m).flow g = t.flow g := by
    unfold State.applyContent
    simp only
    split
    · exact ⟨rfl, rfl, fun _ => rfl⟩
    · split <;> exact ⟨rfl, rfl, fun _ => rfl⟩
    · exact ⟨rfl, rfl, fun _ => rfl⟩
  have hhear : (s.hearPeer i).view.station = s.view.station ∧ (s.hearPeer i).adm = s.adm ∧
      ∀ g, (s.hearPeer i).flow g = s.flow g := by
    unfold State.hearPeer
    split <;> exact ⟨rfl, rfl, fun _ => rfl⟩
  obtain ⟨h1, h2, h3⟩ := hcontent (s.hearPeer i) n
  obtain ⟨k1, k2, k3⟩ := hhear
  exact still (applyNotice_adm s i n) (h2.trans k2) (h1.trans k1) fun g => (h3 g).trans (k3 g)

theorem judgeNotice_moves (s : State) (cs : List Byte) : Moves s (s.judgeNotice cs) := by
  unfold State.judgeNotice
  split
  · exact still_modLine _
  · split
    · split
      · unfold State.handOn
        split
        · exact detectDuplicate_moves s
        · exact applyNotice_moves s _ _
      · exact still_modLine _
    · exact still_modLine _

theorem takeHeader_moves (s : State) (value : Byte) : Moves s (s.takeHeader value) := by
  unfold State.takeHeader
  split
  · exact still_modLine _
  · exact Relation.ReflTransGen.trans (still_modLine _) (still_modLine _)

theorem addCharacter_moves (s : State) (cs : List Byte) (value : Byte) : Moves s (s.addCharacter cs value) := by
  unfold State.addCharacter
  simp only
  split
  · split_ifs
    · exact still_modLine _
    · exact still_modLine _
    · exact Relation.ReflTransGen.trans (still_modLine _) (judgeNotice_moves _ _)
  · exact still_modLine _

theorem takeCharacter_moves (s : State) (value : Byte) (mark : Bool) : Moves s (s.takeCharacter value mark) := by
  have hstop : Moves s (atStopBit s) := by
    unfold atStopBit
    simp only
    split
    · exact Relation.ReflTransGen.trans (still_modLine _) (detectDuplicate_moves _)
    · exact still_modLine _
  obtain e | e | ⟨cs, -, e⟩ | e | e := takeCharacter_cases s value mark <;> rw [e]
  · exact hstop
  · exact hstop.trans (addCharacter_moves _ cs value)
  · exact (hstop.trans ((still_modLine _).trans (still_modLine _))).trans (takeHeader_moves _ value)
  · exact hstop.trans (takeHeader_moves _ value)

theorem wireFree_moves (s : State) (g : Line → Line) : Moves s (s.wireFree.modLine g) := by
  obtain ⟨r, c, e⟩ := SendList.wireFree_line s
  rw [e]
  exact (still_modLine _).trans (still_modLine _)

theorem placeLoadIfSpeaking_moves (s : State) : Moves s s.placeLoadIfSpeaking := by
  refine still (placeLoadIfSpeaking_adm s) ?_ ?_ fun g => ?_
  all_goals
    unfold State.placeLoadIfSpeaking
    split <;> rfl

theorem hearBreak_moves (s : State) : Moves s s.hearBreak := by
  rw [hearBreak_eq]
  refine Relation.ReflTransGen.trans ?_ (placeLoadIfSpeaking_moves _)
  have hnoted : Moves s (breakNoted s) := still_modLine _
  split
  · split
    · exact (hnoted.trans (still_modLine _)).trans (claimLeftWire_moves _)
    · exact hnoted.trans (still_modLine _)
  · exact hnoted

theorem completeBreak_moves (s : State) : Moves s s.completeBreak :=
  still (completeBreak_adm s) rfl rfl fun _ => rfl

theorem agePeers_moves (s : State) : Moves s s.agePeers := by
  obtain ⟨hview, hadm⟩ := SendList.agePeers_view s
  have hage (t : State) (i : StationId) : (t.agePeer i).flows = t.flows := by
    unfold State.agePeer
    simp only
    split_ifs <;> rfl
  refine still (agePeers_adm s) hadm hview fun g => ?_
  have hflows : s.agePeers.flows = s.flows := by
    unfold State.agePeers
    split
    · exact StationTime.foldl_keeps State.flows hage _ s
    · rfl
  rw [State.flow, hflows]
  rfl

/-- Every act of admission and of the peer line is a chain of moves. -/
theorem moves_of_admAct (h : AdmAct s t) (hs : s.ClaimsConsistent) : Moves s t := by
  cases h with
  | declare f d p hfree hp => exact declare_moves hfree hp
  | withdraw f hst => exact withdrawUndecided_moves hs hst
  | claimTimeout f d hf =>
    exact Relation.ReflTransGen.trans (still (reach_adm s d) rfl rfl fun _ => rfl) (claimTimedOut_moves (s := s.reach d) hf)
  | clock d => exact still (reach_adm s d) rfl rfl fun _ => rfl
  | character value mark => exact takeCharacter_moves s value mark
  | framingError => exact still_modLine _
  | wireFree => exact wireFree_moves s _
  | noticeStart => exact wireFree_moves s _
  | loss n =>
    unfold State.loseArbitration
    simp only
    split
    · exact Relation.ReflTransGen.trans (still_modLine _) (claimLeftWire_moves _)
    · exact still_modLine _
  | complete n =>
    unfold State.completeNotice
    simp only
    split
    · exact Relation.ReflTransGen.trans (still_modLine _) (claimCompleted_moves _)
    · exact still_modLine _
  | breakStart => exact wireFree_moves s _
  | breakHeard => exact hearBreak_moves s
  | breakComplete => exact completeBreak_moves s
  | breakHeld => exact (hearBreak_moves s).trans (completeBreak_moves _)
  | stuck =>
    have hwire : Moves s (atStuckWire s) := by
      unfold atStuckWire
      split
      · exact (hearBreak_moves s).trans (still_modLine _)
      · exact still_modLine _
    rw [stuck_eq]
    split
    · exact hwire.trans (enterIsolated_moves _)
    · exact hwire
  | restored hst =>
    have hk := enterRestored_adm s
    exact Move.moves ⟨hk.straps, hk.store, .station rfl (fun _ => rfl) (by rw [hst]; decide)⟩
  | listened d hst =>
    have hk := ((reach_adm s d).trans (setStation_adm _ .active)).trans (emit_adm _ (.lineEvent s.straps.stn .active))
    exact Relation.ReflTransGen.trans (Move.moves ⟨hk.straps, hk.store, .station rfl (fun _ => rfl) (by rw [hst]; decide)⟩)
      (place_moves _)
  | refresh =>
    exact Relation.ReflTransGen.trans (still (restartRefresh_adm s) rfl rfl fun _ => rfl)
      ((agePeers_moves _).trans (placeLoadIfSpeaking_moves _))

end

end Sys2Proof.Proofs.Admission
end

section
/-! The claim queue stays consistent with the flow states (R146, R157), and the own entry stays the sum of the loads held,
within the admission limit (R155). -/

namespace Sys2Proof.Proofs.Admission

open Sys2Proof Sys2Proof.Machine Sys2Proof.Proofs.Frames Sys2Proof.Proofs.Acts

section
variable {s t : State}

/-! ## The claim queue -/

theorem claims_of_still (h : s.ClaimsConsistent) (hadm : t.adm = s.adm)
    (hwait : ∀ f, (t.flow f).state = .claimWait ↔ (s.flow f).state = .claimWait)
    (hclaim : ∀ f, (t.flow f).state = .claiming ↔ (s.flow f).state = .claiming)
    (hstation : s.adm.claiming.isSome = true → t.view.station = .active) : t.ClaimsConsistent := by
  obtain ⟨h1, h2, h3, h4, -⟩ := h
  refine ⟨?_, fun f => ?_, fun f => ?_, ?_, ?_⟩ <;> rw [hadm]
  · exact h1
  · rw [h2, hwait]
  · rw [h3, hclaim]
  · exact h4
  · exact hstation

theorem claims_active (h : s.ClaimsConsistent) (hstation : t.view.station = s.view.station) :
    s.adm.claiming.isSome = true → t.view.station = .active := by
  rw [hstation]
  exact h.2.2.2.2

/-- A change of one flow that is and stays decided. -/
theorem state_of_alters {f : FlowId} {y : Flow} (hflow : Alters s t f y) {st : FlowState}
    (hold : (s.flow f).state ≠ st) (hnew : y.state ≠ st) (g : FlowId) :
    (t.flow g).state = st ↔ (s.flow g).state = st := by
  rw [hflow]
  split
  · subst_vars
    exact ⟨fun e => absurd e hnew, fun e => absurd e hold⟩
  · rfl

/-- The CLAIMING flow is decided. -/
theorem claims_of_ended (h : s.ClaimsConsistent) {f : FlowId} (hf : s.adm.claiming = some f) {y : Flow}
    (hflow : Alters s t f y) (hwait : y.state ≠ .claimWait) (hclaim : y.state ≠ .claiming)
    (hq : t.adm.claimQueue = s.adm.claimQueue) (hnone : t.adm.claiming = none) (htimer : t.adm.claimTimer = none) :
    t.ClaimsConsistent := by
  obtain ⟨h1, h2, h3, h4, h5⟩ := h
  have hst : (s.flow f).state = .claiming := (h3 f).mp hf
  refine ⟨hq ▸ h1, fun g => ?_, fun g => ?_, by rw [hnone, htimer]; rfl, fun hs => ?_⟩
  · rw [hq, h2, state_of_alters hflow (by rw [hst]; decide) hwait]
  · rw [hnone, hflow]
    split
    · exact ⟨fun e => absurd e (by simp), fun e => absurd e hclaim⟩
    next hg =>
      refine ⟨fun e => absurd e (by simp), fun e => ?_⟩
      rw [(h3 g).mpr e] at hf
      exact absurd (Option.some.inj hf) hg
  · rw [hnone] at hs
    exact absurd hs Bool.false_ne_true

/-- A flow of the table joins the claim queue. -/
theorem claims_of_queued (h : s.ClaimsConsistent) {f : FlowId} {y : Flow} (hf : (s.flow f).state = .free)
    (hy : y.state = .claimWait) (hflow : Alters s t f y)
    (hadm : t.adm = { s.adm with claimQueue := s.adm.claimQueue ++ [f] })
    (hstation : t.view.station = s.view.station) : t.ClaimsConsistent := by
  have hact := claims_active h hstation
  obtain ⟨h1, h2, h3, h4, -⟩ := h
  have hnot : f ∉ s.adm.claimQueue := fun hm => by
    have := (h2 f).mp hm
    rw [hf] at this
    exact absurd this (by decide)
  refine ⟨?_, fun g => ?_, fun g => ?_, ?_, ?_⟩ <;> rw [hadm]
  · exact List.nodup_append.mpr ⟨h1, List.nodup_singleton f, fun a ha b hb => by
      rw [List.mem_singleton] at hb
      rintro rfl
      exact hnot (hb ▸ ha)⟩
  · rw [List.mem_append, List.mem_singleton, hflow]
    split
    · subst_vars
      exact ⟨fun _ => hy, fun _ => .inr rfl⟩
    next hg => rw [h2, or_iff_left hg]
  · rw [h3, state_of_alters hflow (by rw [hf]; decide) (by rw [hy]; decide)]
  · exact h4
  · exact hact

theorem claims_of_move (h : Move s t) (hs : s.ClaimsConsistent) : t.ClaimsConsistent := by
  cases h.moved with
  | still hadm hstation hflow =>
    exact claims_of_still hs hadm (fun f => by rw [hflow]) (fun f => by rw [hflow]) (claims_active hs hstation)
  | station hadm hflow hidle =>
    refine claims_of_still hs hadm (fun f => by rw [hflow]) (fun f => by rw [hflow]) fun hsome => ?_
    obtain ⟨-, -, -, -, h5⟩ := hs
    exact absurd (h5 hsome) hidle
  | placed f rest timer hstation hnone hq hadm hflow =>
    obtain ⟨h1, h2, h3, -, -⟩ := hs
    rw [hq] at h1
    obtain ⟨hnot, hnodup⟩ := List.nodup_cons.mp h1
    have hf : (s.flow f).state = .claimWait := (h2 f).mp (by rw [hq]; exact List.mem_cons_self)
    refine ⟨?_, fun g => ?_, fun g => ?_, ?_, fun _ => hstation⟩
    · rw [hadm]; exact hnodup
    · rw [hadm, hflow]
      have hold := h2 g
      rw [hq, List.mem_cons] at hold
      split
      next e => exact ⟨fun hm => absurd (e ▸ hm) hnot, fun hc => absurd hc FlowState.noConfusion⟩
      next hg => rw [← hold, or_iff_right hg]
    · rw [hadm, hflow]
      split
      next e => exact ⟨fun _ => rfl, fun _ => by rw [e]⟩
      next hg =>
        rw [← h3 g, hnone]
        exact ⟨fun e => absurd (Option.some.inj e).symm hg, fun e => absurd e (by simp)⟩
    · rw [hadm]; rfl
  | ended f hf hadm hflow =>
    exact claims_of_ended hs hf hflow (by simp [Flow.freed]) (by simp [Flow.freed]) (by rw [hadm]) (by rw [hadm])
      (by rw [hadm])
  | admitted f hf hfits hadm hflow =>
    exact claims_of_ended hs hf hflow (by simp) (by simp) (by rw [hadm]; rfl) (by rw [hadm]; rfl) (by rw [hadm]; rfl)
  | dequeued f hf hstation hadm hflow =>
    have hact := claims_active hs hstation
    obtain ⟨h1, h2, h3, h4, -⟩ := hs
    refine ⟨?_, fun g => ?_, fun g => ?_, ?_, ?_⟩ <;> rw [hadm]
    · exact h1.filter _
    · rw [List.mem_filter, h2, hflow]
      split
      next e => subst e; simp [Flow.freed]
      next hg => simp [hg]
    · rw [h3, state_of_alters hflow (by rw [hf]; decide) (by simp [Flow.freed])]
    · exact h4
    · exact hact
  | marked f hf hadm hstation hflow =>
    have hstate (g : FlowId) : (t.flow g).state = (s.flow g).state := by
      rw [hflow]
      split
      · subst_vars; rfl
      · rfl
    exact claims_of_still hs hadm (fun g => by rw [hstate]) (fun g => by rw [hstate]) (claims_active hs hstation)
  | declared f d p hp hf hstation hadm hflow => exact claims_of_queued hs hf rfl hflow hadm hstation
  | armed f d p hp hf hstation hfits hadm hflow =>
    obtain ⟨h1, h2, h3, h4, h5⟩ := hs
    refine ⟨?_, fun g => ?_, fun g => ?_, ?_, ?_⟩ <;> rw [hadm]
    · exact h1
    · exact (h2 g).trans (state_of_alters hflow (by rw [hf]; decide) (by simp) g).symm
    · exact (h3 g).trans (state_of_alters hflow (by rw [hf]; decide) (by simp) g).symm
    · exact h4
    · rw [hstation]; exact h5
  | refused f d p hp hf hstation hadm hflow =>
    exact claims_of_still hs hadm (state_of_alters hflow (by rw [hf]; decide) (by simp [Flow.freed]))
      (state_of_alters hflow (by rw [hf]; decide) (by simp [Flow.freed])) (claims_active hs hstation)
  | cleared hadm hflow =>
    obtain ⟨-, h2, h3, -, -⟩ := hs
    refine ⟨?_, fun g => ?_, fun g => ?_, ?_, ?_⟩ <;> rw [hadm]
    · exact List.nodup_nil
    · rw [hflow]
      split
      · simp [Flow.freed]
      next hg => exact ⟨fun hm => absurd hm List.not_mem_nil, fun e => absurd (.inl ((h2 g).mpr e)) hg⟩
    · rw [hflow]
      split
      · simp [Flow.freed]
      next hg => exact ⟨fun e => absurd e (by simp), fun e => absurd (.inr ((h3 g).mpr e)) hg⟩
    · rfl
    · exact fun e => absurd e Bool.false_ne_true

theorem claims_of_moves (h : Moves s t) (hs : s.ClaimsConsistent) : t.ClaimsConsistent := by
  induction h with
  | refl => exact hs
  | tail _ hmove ih => exact claims_of_move hmove ih

theorem holdsLoad_state {x : Flow} (h : x.holdsLoad = true) : x.state ≠ .free ∧ x.state ≠ .claimWait ∧ x.state ≠ .claiming := by
  refine ⟨?_, ?_, ?_⟩ <;> intro e <;> simp [Flow.holdsLoad, Flow.accepts, e] at h

theorem claims_of_data (h : DataStep s t) (hs : s.ClaimsConsistent) : t.ClaimsConsistent := by
  have hstate (f : FlowId) (st : FlowState) (hst : st = .claimWait ∨ st = .claiming) :
      (t.flow f).state = st ↔ (s.flow f).state = st := by
    obtain e | ⟨hx, hy⟩ := (h.flows f).state
    · rw [e]
    · obtain ⟨-, hx1, hx2⟩ := holdsLoad_state hx
      obtain ⟨-, hy1, hy2⟩ := holdsLoad_state hy
      obtain rfl | rfl := hst
      · exact ⟨fun e => absurd e hy1, fun e => absurd e hx1⟩
      · exact ⟨fun e => absurd e hy2, fun e => absurd e hx2⟩
  exact claims_of_still hs h.adm (fun f => hstate f _ (.inl rfl)) (fun f => hstate f _ (.inr rfl))
    (claims_active hs (by rw [h.view]))

/-- The passage to FREE of a flow that holds load leaves the claims alone. -/
theorem claims_of_flowToFree (hs : s.ClaimsConsistent) {f : FlowId} (hload : (s.flow f).holdsLoad = true)
    (reason : ClosedReason) : (s.flowToFree f reason).ClaimsConsistent := by
  obtain ⟨-, hwait, hclaim⟩ := holdsLoad_state hload
  have hflow : Alters s (s.flowToFree f reason) f (s.flow f).freed := flow_flowToFree s f reason
  obtain ⟨h1, h2, h3, h4, h5⟩ := hs
  refine ⟨?_, fun g => ?_, fun g => ?_, ?_, ?_⟩ <;> rw [SendList.flowToFree_adm_eq]
  · exact h1
  · exact (h2 g).trans (state_of_alters hflow hwait (by simp [Flow.freed]) g).symm
  · exact (h3 g).trans (state_of_alters hflow hclaim (by simp [Flow.freed]) g).symm
  · exact h4
  · rw [flowToFree_view]; exact h5

theorem afterReset_claims (straps : Straps) (a b z : Bool) (pending : List Instr) :
    (State.afterReset straps a b z pending).ClaimsConsistent := by
  refine ⟨List.nodup_nil, fun f => ?_, fun f => ?_, rfl, fun h => absurd h Bool.false_ne_true⟩
  · rw [CellStore.flow_afterReset]
    simp [State.afterReset, Flow.afterReset]
  · rw [CellStore.flow_afterReset]
    simp [State.afterReset, Flow.afterReset]

theorem act_keeps_claims {c : Instr} (h : Act s c t) (hs : s.ClaimsConsistent) : t.ClaimsConsistent := by
  cases h with
  | hold => exact hs
  | reset straps a b z => exact afterReset_claims straps a b z s.pending
  | data h => exact claims_of_data h.step hs
  | adm h => exact claims_of_moves (moves_of_admAct h hs) hs
  | ended f reason h hload => exact claims_of_flowToFree (claims_of_data h.step hs) hload reason

/-! ## The own entry -/

/-- What a flow has committed on a leg (R155). -/
def share (x : Flow) (l : Leg) : Nat := if x.holdsLoad && x.params.legs.uses l then x.derived.load else 0

theorem committed_eq (s : State) (l : Leg) : s.committed l = (allFlows.map (fun f => share (s.flow f) l)).sum := rfl

/-- The own entry is the sum of the loads held and within the admission limit. -/
def Owns (s : State) : Prop :=
  (∀ l, s.adm.own l = s.committed l) ∧ ∀ l, s.adm.own l ≤ admissionLimit s.straps.cap

theorem ownEntryExact_iff (s : State) : s.OwnEntryExact ↔ s.ClaimsConsistent ∧ Owns s := Iff.rfl

theorem share_idle {x : Flow} (h : x.holdsLoad = false) (l : Leg) : share x l = 0 := by simp [share, h]

theorem owns_congr (hs : Owns s) (hown : ∀ l, t.adm.own l = s.adm.own l) (hstraps : t.straps = s.straps)
    (hshare : ∀ f l, share (t.flow f) l = share (s.flow f) l) : Owns t := by
  obtain ⟨h1, h2⟩ := hs
  refine ⟨fun l => ?_, fun l => ?_⟩
  · rw [hown, h1, committed_eq, committed_eq]
    simp only [hshare]
  · rw [hown, hstraps]
    exact h2 l

/-- A flow that held no load holds none. -/
theorem owns_of_idle (hs : Owns s) {f : FlowId} {y : Flow} (hflow : Alters s t f y)
    (hf : (s.flow f).holdsLoad = false) (hy : y.holdsLoad = false) (hown : ∀ l, t.adm.own l = s.adm.own l)
    (hstraps : t.straps = s.straps) : Owns t := by
  refine owns_congr hs hown hstraps fun g l => ?_
  rw [hflow]
  split
  next e => rw [e, share_idle hf, share_idle hy]
  · rfl

theorem own_gain (a : Admission) (legs : Legs) (n : Nat) (l : Leg) :
    (a.gain legs n).own l = if legs.uses l then a.own l + n else a.own l := by
  cases l <;> rfl

theorem own_give (a : Admission) (legs : Legs) (n : Nat) (l : Leg) :
    (a.give legs n).own l = if legs.uses l then a.own l - n else a.own l := by
  cases l <;> rfl

theorem own_le_legSum (s : State) (l : Leg) : s.adm.own l ≤ s.legSum l := Nat.le_add_right _ _

theorem mem_legs_list (x : Legs) (l : Leg) : l ∈ x.list ↔ x.uses l = true := by
  cases x <;> cases l <;> decide

/-- The capacity test holds the own entry within the limit on each leg of the flow. -/
theorem own_fits {f : FlowId} (h : s.claimFits f = true) {l : Leg} (hl : (s.flow f).params.legs.uses l = true) :
    s.adm.own l + (s.flow f).derived.load ≤ admissionLimit s.straps.cap := by
  have hfit := List.all_eq_true.mp h l ((mem_legs_list _ l).mpr hl)
  rw [State.fits, decide_eq_true_iff] at hfit
  exact (Nat.add_le_add_right (own_le_legSum s l) _).trans hfit

/-- A flow is admitted with its load. -/
theorem owns_of_admitted (hs : Owns s) {f : FlowId} {y : Flow} (hflow : Alters s t f y)
    (hf : (s.flow f).holdsLoad = false) (hy : y.holdsLoad = true)
    (hown : ∀ l, t.adm.own l = if y.params.legs.uses l then s.adm.own l + y.derived.load else s.adm.own l)
    (hfits : ∀ l, y.params.legs.uses l = true → s.adm.own l + y.derived.load ≤ admissionLimit s.straps.cap)
    (hstraps : t.straps = s.straps) : Owns t := by
  obtain ⟨h1, h2⟩ := hs
  refine ⟨fun l => ?_, fun l => ?_⟩
  · have hsum := CellStore.sum_flows_update (fun g => share (s.flow g) l) (fun g => share (t.flow g) l) f fun g hg => by
      rw [hflow, if_neg hg]
    simp only [hflow f, if_true] at hsum
    rw [share_idle hf, Nat.add_zero, ← committed_eq, ← committed_eq, ← h1] at hsum
    rw [hown, hsum, share, hy, Bool.true_and]
    split <;> rfl
  · rw [hown, hstraps]
    split
    next hl => exact hfits l hl
    · exact h2 l

theorem freed_idle (x : Flow) : x.freed.holdsLoad = false := by simp [Flow.freed, Flow.holdsLoad, Flow.accepts]

theorem idle_of_state {x : Flow} (h : x.state = .free ∨ x.state = .claimWait ∨ x.state = .claiming) :
    x.holdsLoad = false := by
  obtain h | h | h := h <;> simp [Flow.holdsLoad, Flow.accepts, h]

theorem owns_of_move (h : Move s t) (hc : s.ClaimsConsistent) (hs : Owns s) : Owns t := by
  obtain ⟨-, hqueue, hclaiming, -, -⟩ := hc
  have hclaimed {f : FlowId} (hf : s.adm.claiming = some f) : (s.flow f).holdsLoad = false :=
    idle_of_state (.inr (.inr ((hclaiming f).mp hf)))
  cases h.moved with
  | still hadm _ hflow => exact owns_congr hs (fun l => by rw [hadm]) h.straps fun f l => by rw [hflow]
  | station hadm hflow => exact owns_congr hs (fun l => by rw [hadm]) h.straps fun f l => by rw [hflow]
  | placed f rest timer _ _ hq hadm hflow =>
    exact owns_of_idle hs hflow (idle_of_state (.inr (.inl ((hqueue f).mp (by rw [hq]; exact List.mem_cons_self)))))
      (idle_of_state (.inr (.inr rfl))) (fun l => by rw [hadm]; cases l <;> rfl) h.straps
  | ended f hf hadm hflow =>
    exact owns_of_idle hs hflow (hclaimed hf) (freed_idle _) (fun l => by rw [hadm]; cases l <;> rfl) h.straps
  | admitted f hf hfits hadm hflow =>
    refine owns_of_admitted hs hflow (hclaimed hf) (by simp [Flow.holdsLoad, Flow.accepts]) (fun l => ?_)
      (fun l hl => own_fits hfits hl) h.straps
    rw [hadm, own_gain]
    cases l <;> rfl
  | dequeued f hf _ hadm hflow =>
    exact owns_of_idle hs hflow (idle_of_state (.inr (.inl hf))) (freed_idle _)
      (fun l => by rw [hadm]; cases l <;> rfl) h.straps
  | marked f hf hadm _ hflow =>
    exact owns_of_idle hs hflow (idle_of_state (.inr (.inr hf))) (idle_of_state (.inr (.inr hf)))
      (fun l => by rw [hadm]) h.straps
  | declared f d p _ hf _ hadm hflow =>
    exact owns_of_idle hs hflow (idle_of_state (.inl hf)) (idle_of_state (.inr (.inl rfl)))
      (fun l => by rw [hadm]; cases l <;> rfl) h.straps
  | armed f d p _ hf _ hfits hadm hflow =>
    have hself : (s.modFlow f (fun x => x.declared p)).flow f = (s.flow f).declared p := by
      rw [alters_declared, if_pos rfl]
    refine owns_of_admitted hs hflow (idle_of_state (.inl hf)) (by simp [Flow.holdsLoad, Flow.accepts]) (fun l => ?_)
      (fun l hl => ?_) h.straps
    · rw [hadm, own_gain]
      rfl
    · have hfit := own_fits hfits (l := l) (by rw [hself]; exact hl)
      rw [hself] at hfit
      exact hfit
  | refused f d p _ hf _ hadm hflow =>
    exact owns_of_idle hs hflow (idle_of_state (.inl hf)) (freed_idle _) (fun l => by rw [hadm]) h.straps
  | cleared hadm hflow =>
    refine owns_congr hs (fun l => by rw [hadm]; cases l <;> rfl) h.straps fun g l => ?_
    rw [hflow]
    split
    next hg =>
      have hidle : (s.flow g).holdsLoad = false :=
        hg.elim (fun hq => idle_of_state (.inr (.inl ((hqueue g).mp hq)))) hclaimed
      rw [share_idle (freed_idle _), share_idle hidle]
    · rfl

theorem owns_of_moves (h : Moves s t) (hc : s.ClaimsConsistent) (hs : Owns s) : Owns t := by
  induction h with
  | refl => exact hs
  | tail hmoves hmove ih => exact owns_of_move hmove (claims_of_moves hmoves hc) ih

theorem owns_of_data (h : DataStep s t) (hs : Owns s) : Owns t :=
  owns_congr hs (fun l => by rw [h.adm]) h.straps fun f l => by
    obtain ⟨hparams, hderived, -⟩ := h.flows f
    rw [share, share, (h.flows f).holdsLoad, hparams, hderived]

theorem owns_of_flowToFree (hs : Owns s) {f : FlowId} (hload : (s.flow f).holdsLoad = true) (reason : ClosedReason) :
    Owns (s.flowToFree f reason) := by
  have hstraps : (s.flowToFree f reason).straps = s.straps := (flowToFree_adm s f reason).straps
  obtain ⟨h1, h2⟩ := hs
  have hown (l : Leg) : (s.flowToFree f reason).adm.own l =
      if (s.flow f).params.legs.uses l then s.adm.own l - (s.flow f).derived.load else s.adm.own l := by
    rw [SendList.flowToFree_adm_eq, own_give]
  refine ⟨fun l => ?_, fun l => ?_⟩
  · have hsum := CellStore.sum_flows_update (fun g => share (s.flow g) l)
      (fun g => share ((s.flowToFree f reason).flow g) l) f fun g hg => by rw [flow_flowToFree, if_neg hg]
    simp only [flow_flowToFree s f reason f, if_true] at hsum
    rw [share_idle (freed_idle _), Nat.add_zero, ← committed_eq, ← committed_eq, ← h1, share, hload,
      Bool.true_and] at hsum
    rw [hown]
    split at hsum
    next hl => rw [if_pos hl]; omega
    next hl => rw [if_neg hl]; omega
  · rw [hown, hstraps]
    have := h2 l
    split <;> omega

theorem afterReset_owns (straps : Straps) (a b z : Bool) (pending : List Instr) :
    Owns (State.afterReset straps a b z pending) := by
  have hown (l : Leg) : (State.afterReset straps a b z pending).adm.own l = 0 := by cases l <;> rfl
  refine ⟨fun l => ?_, fun l => by rw [hown]; exact Nat.zero_le _⟩
  rw [hown, committed_eq]
  refine (List.sum_eq_zero fun n hn => ?_).symm
  obtain ⟨f, -, rfl⟩ := List.mem_map.mp hn
  rw [CellStore.flow_afterReset]
  exact share_idle rfl l

theorem act_keeps_own {c : Instr} (h : Act s c t) (hc : s.ClaimsConsistent) (hs : Owns s) : Owns t := by
  cases h with
  | hold => exact owns_congr hs (fun _ => rfl) rfl fun _ _ => rfl
  | reset straps a b z => exact afterReset_owns straps a b z s.pending
  | data h => exact owns_of_data h.step hs
  | adm h => exact owns_of_moves (moves_of_admAct h hc) hc hs
  | ended f reason h hload => exact owns_of_flowToFree (owns_of_data h.step hs) hload reason

end

/-- Settles O55: the data path leaves the Admission Unit alone, and each of its own moves keeps the claims consistent and
books exactly the load that its flow gains or gives up. -/
theorem everyStepKeepsTheOwnEntry : Obligations.EveryStepKeepsTheOwnEntry := by
  intro s t hs hstep
  obtain rfl | ⟨c, rest, h⟩ := act_of_step hstep
  · exact hs
  · obtain ⟨hclaims, howns⟩ := (ownEntryExact_iff s).mp hs
    have hclaims' : State.ClaimsConsistent { s with pending := rest } := hclaims
    exact (ownEntryExact_iff t).mpr ⟨act_keeps_claims h hclaims',
      act_keeps_own h hclaims' (owns_congr howns (fun _ => rfl) rfl fun _ _ => rfl)⟩

end Sys2Proof.Proofs.Admission
end

section
/-! The roundings up of the pacing arithmetic: lock frame (R28), committed load (R31), and the closed form of the credit
slots as a count of instants (R27, R75). -/

namespace Sys2Proof.Proofs.Roundings

open Sys2Proof Sys2Proof.Machine Sys2Proof.Proofs.Declare Sys2Proof.Proofs.Pacing

/-! ## Rounding up (R20) -/

theorem lt_divUp_iff {b : Nat} (a m : Nat) (hb : 0 < b) : m < divUp a b ↔ m * b < a := by
  rw [← Nat.not_le, divUp_le_iff a m hb, Nat.not_le]

/-- Rounding up a quotient of an integer held at 0 or more is the ceiling held at 0 or more. -/
theorem divUp_toNat_eq_ceil (a : ℤ) {b : Nat} (hb : 0 < b) : (divUp a.toNat b : ℤ) = max 0 ⌈(a : ℚ) / b⌉ := by
  have hbq : (0 : ℚ) < b := by exact_mod_cast hb
  refine eq_of_forall_ge_iff fun c => ?_
  rw [max_le_iff, Int.ceil_le, div_le_iff₀ hbq]
  constructor
  · intro h
    have hc : 0 ≤ c := (Int.natCast_nonneg _).trans h
    lift c to ℕ using hc
    rw [Nat.cast_le, divUp_le_iff _ _ hb] at h
    refine ⟨Int.natCast_nonneg _, ?_⟩
    have : a ≤ c * b := by
      have := Int.self_le_toNat a
      zify at h
      linarith
    exact_mod_cast this
  · rintro ⟨hc, h⟩
    lift c to ℕ using hc
    rw [Nat.cast_le, divUp_le_iff _ _ hb]
    have : a ≤ c * b := by exact_mod_cast h
    rw [Int.toNat_le]
    exact_mod_cast this

theorem divUp_eq_ceil (a : Nat) {b : Nat} (hb : 0 < b) : (divUp a b : ℤ) = ⌈(a : ℚ) / b⌉ := by
  have h := divUp_toNat_eq_ceil (a : ℤ) hb
  rw [Int.toNat_natCast] at h
  rw [h, Int.cast_natCast, max_eq_right]
  exact Int.ceil_nonneg (div_nonneg (Nat.cast_nonneg _) (Nat.cast_nonneg _))

/-! ## The lock frame (R28) -/

section
variable (p : Params) (now : Nat) (hpn : 0 < p.pn) (hpd : 0 < p.pd)
include hpn hpd

theorem lockFrame_le_iff (k : Nat) : p.lockFrame now ≤ k ↔ now + 8000 ≤ p.frameStart k := by
  rw [Params.lockFrame, divUp_le_iff _ _ hpn, ← Nat.le_div_iff_mul_le hpd, Params.frameStart, Config.leadNs]
  generalize k * p.pn / p.pd = start
  omega

/-- The lock frame starts at least 8,000 ns ahead of now. -/
theorem lead_le_lockFrame : now + 8000 ≤ p.frameStart (p.lockFrame now) :=
  (lockFrame_le_iff p now hpn hpd _).mp le_rfl

end

/-- Settles O22: the lock frame is the least frame that starts far enough ahead. -/
theorem lockFrameIsTheFirstAhead : Obligations.LockFrameIsTheFirstAhead := by
  intro p now hpn hpd ho k
  have hle := lockFrame_le_iff p now hpn hpd
  have hlead : now + 8000 ≤ p.frameStart k := lead_le_lockFrame p now hpn hpd
  have hbefore (hk : 0 < k) : p.frameStart (k - 1) < now + 8000 := by
    rw [← Nat.not_le, ← hle]
    exact Nat.not_le.mpr (Nat.sub_lt hk Nat.one_pos)
  refine ⟨?_, hlead, hbefore, ?_, fun hahead => ?_, fun i hi => ?_⟩
  · have h := divUp_toNat_eq_ceil (((now : ℤ) + 8000 - p.o) * p.pd) hpn
    have hnat : (((now : ℤ) + 8000 - p.o) * p.pd).toNat = (now + Config.leadNs - p.o) * p.pd := by
      rw [Config.leadNs]
      rcases Nat.le_total p.o (now + 8000) with hle | hge
      · have hcast : ((now : ℤ) + 8000 - p.o) * p.pd = ((now + 8000 - p.o) * p.pd : ℕ) := by
          push_cast [Nat.cast_sub hle]
          rfl
        rw [hcast, Int.toNat_natCast]
      · rw [Nat.sub_eq_zero_of_le hge, Nat.zero_mul]
        exact Int.toNat_of_nonpos (mul_nonpos_of_nonpos_of_nonneg (by omega) (Int.natCast_nonneg _))
    rw [hnat] at h
    rw [show (k : ℤ) = _ from h]
    push_cast
    rfl
  · rcases Nat.eq_zero_or_pos k with hk | hk
    · rw [hk]
      have : p.frameStart 0 = p.o := by simp [Params.frameStart]
      omega
    · have hstep := (frameStart_succ_bounds hpd (k - 1)).2
      rw [Nat.sub_add_cancel hk] at hstep
      have := hbefore hk
      omega
  · refine Nat.le_zero.mp ((hle 0).mpr ?_)
    simpa [Params.frameStart] using hahead
  · by_contra hk
    have := frameStart_mono p (Nat.not_lt.mp hk)
    omega

/-! ## Load and capacity (R31, R32) -/

/-- Settles O23: the load is a rounding up, and the capacities are read off code by code. -/
theorem loadAndCapacityFollowTheRules : Obligations.LoadAndCapacityFollowTheRules := by
  refine ⟨fun p hpn hpd hn hu => ⟨divUp_eq_ceil _ hpn, ?_⟩, fun p q hn hu hsmax hpn hpd => ?_, by decide⟩
  · refine (lt_divUp_iff _ 0 hpn).mpr ?_
    rw [Nat.zero_mul]
    positivity
  · rw [Params.load, Params.load, hn, hu, hsmax, hpn, hpd]

/-! ## Credit slots (R27, R75) -/

section
variable {p : Params} (h : p.Paced)
include h

theorem paced_pn_pos : 0 < p.pn := by
  obtain ⟨hpn, -⟩ := h
  exact hpn

theorem paced_sn_pos : 0 < p.sn := paced_active_pos h

/-- The frames that start at or before t. -/
theorem lt_frames_iff (t k : Nat) : k < divUp ((t + 1 - p.o) * p.pd) p.pn ↔ p.frameStart k ≤ t := by
  rw [lt_divUp_iff _ _ (paced_pn_pos h), ← Nat.div_lt_iff_lt_mul (paced_pd_pos h), Params.frameStart]
  generalize k * p.pn / p.pd = start
  omega

/-- The indices whose offset is at most y. -/
theorem lt_indices_iff (y j : Nat) : j < divUp ((y + 1) * p.sd) p.sn ↔ p.offset j ≤ y := by
  rw [lt_divUp_iff _ _ (paced_sn_pos h), ← Nat.div_lt_iff_lt_mul (paced_sd_pos h), Params.offset, Nat.lt_succ_iff]

/-- The instants of a flow from its lock frame on, numbered in their order. -/
def nthInstant (p : Params) (first m : Nat) : Nat := p.instant (first + m / p.n) (m % p.n)

theorem nthInstant_apart {first m m' : Nat} (hm : m < m') : nthInstant p first m + 64 ≤ nthInstant p first m' := by
  have hn := paced_n_pos h
  refine instants_apart h (Nat.mod_lt _ hn) ?_
  rcases (Nat.div_le_div_right hm.le : m / p.n ≤ m' / p.n).lt_or_eq with hlt | heq
  · exact .inl (by omega)
  · refine .inr ⟨by rw [heq], ?_⟩
    have h1 := Nat.div_add_mod m p.n
    have h2 := Nat.div_add_mod m' p.n
    rw [heq] at h1
    omega

/-- The closed form counts exactly the instants at or before t. -/
theorem lt_instantsThrough_iff (first t m : Nat) : m < p.instantsThrough first t ↔ nthInstant p first m ≤ t := by
  have hn := paced_n_pos h
  have hframes := lt_frames_iff h t
  unfold Params.instantsThrough nthInstant
  simp only
  generalize divUp ((t + 1 - p.o) * p.pd) p.pn = frames at hframes ⊢
  have hsplit := Nat.div_add_mod m p.n
  have hj := Nat.mod_lt m hn
  generalize m / p.n = i at *
  generalize m % p.n = j at *
  have hstart : p.frameStart (first + i) ≤ p.instant (first + i) j := Nat.le_add_right _ _
  split
  next hnone =>
    refine iff_of_false (Nat.not_lt_zero _) fun hle => ?_
    have := (hframes (first + i)).mpr (hstart.trans hle)
    omega
  next hsome =>
    obtain ⟨k, rfl⟩ : ∃ k, frames = k + 1 := ⟨frames - 1, by omega⟩
    rw [Nat.add_sub_cancel]
    have hk : p.frameStart k ≤ t := (hframes k).mp (Nat.lt_succ_self k)
    have hindices := lt_indices_iff h (t - p.frameStart k) j
    generalize divUp ((t - p.frameStart k + 1) * p.sd) p.sn = J at hindices ⊢
    rcases Nat.lt_trichotomy (first + i) k with hlt | heq | hgt
    · refine iff_of_true ?_ ?_
      · have hrows : p.n * (i + 1) ≤ p.n * (k - first) := Nat.mul_le_mul_left _ (by omega)
        rw [Nat.mul_succ] at hrows
        rw [Nat.mul_comm (k - first)]
        omega
      · have := instants_apart h hj (k' := k) (j' := 0) (.inl hlt)
        rw [instant_zero] at this
        omega
    · have hi : k - first = i := by omega
      rw [hi, heq, Nat.mul_comm i, ← hsplit, Nat.add_lt_add_iff_left, lt_min_iff, hindices, Params.instant]
      constructor
      · rintro ⟨-, hle⟩
        omega
      · exact fun hle => ⟨hj, by omega⟩
    · refine iff_of_false ?_ fun hle => ?_
      · have hrows : p.n * (k - first + 1) ≤ p.n * i := Nat.mul_le_mul_left _ (by omega)
        rw [Nat.mul_succ] at hrows
        rw [Nat.mul_comm (k - first)]
        omega
      · have := (hframes (first + i)).mpr (hstart.trans hle)
        omega

theorem nthInstant_surjective {first k j : Nat} (hk : first ≤ k) (hj : j < p.n) :
    nthInstant p first ((k - first) * p.n + j) = p.instant k j := by
  have hn := paced_n_pos h
  rw [nthInstant, Nat.mul_comm, Nat.mul_add_div hn, Nat.mul_add_mod, Nat.div_eq_of_lt hj, Nat.mod_eq_of_lt hj]
  congr 1
  omega

/-- The slots of the instants numbered from `lo` to below `hi` are as many. -/
theorem ncard_slots (first lo hi : Nat) :
    Set.ncard ((fun m => nthInstant p first m / 32) '' Set.Ico lo hi) = hi - lo := by
  rw [Set.ncard_image_of_injective, ← Finset.coe_Ico, Set.ncard_coe_finset, Nat.card_Ico]
  intro m m' hm
  simp only at hm
  rcases Nat.lt_trichotomy m m' with hlt | heq | hgt
  · have := nthInstant_apart h (first := first) hlt
    omega
  · exact heq
  · have := nthInstant_apart h (first := first) hgt
    omega

end

/-- Settles O19: the closed form numbers the instants, and each slot holds at most one. -/
theorem creditSlotsCountTheInstants : Obligations.CreditSlotsCountTheInstants := by
  intro p first c c' h _
  have hthrough (s m : Nat) : m < p.instantsThrough first (slotStart s + (Config.slotNs - 1)) ↔
      nthInstant p first m / 32 ≤ s := by
    rw [lt_instantsThrough_iff h]
    unfold slotStart Config.slotNs
    omega
  rw [Params.creditSlots, ← ncard_slots h first]
  congr 1
  ext slot
  rw [Set.mem_image, Set.mem_ofPred_eq]
  constructor
  · rintro ⟨m, hm, rfl⟩
    obtain ⟨hlo, hhi⟩ := Set.mem_Ico.mp hm
    refine ⟨?_, (hthrough c' m).mp hhi, first + m / p.n, m % p.n, Nat.le_add_right _ _, Nat.mod_lt _ (paced_n_pos h),
      rfl⟩
    rw [← Nat.not_le, ← hthrough]
    exact Nat.not_lt.mpr hlo
  · rintro ⟨hlo, hhi, k, j, hk, hj, rfl⟩
    have hnth := nthInstant_surjective h hk hj
    have hinstant : p.instant k j = k * p.pn / p.pd + p.o + j * (p.pn * p.a) / (p.pd * p.t * p.n) := rfl
    refine ⟨(k - first) * p.n + j, Set.mem_Ico.mpr ⟨?_, ?_⟩, ?_⟩
    · rw [← Nat.not_lt, hthrough, hnth, hinstant]
      exact Nat.not_le.mpr hlo
    · rw [hthrough, hnth, hinstant]
      exact hhi
    · rw [hnth, hinstant]

end Sys2Proof.Proofs.Roundings
end

section
/-! The Binder: what each of its operations leaves of the flow, of the legs and of the Cell Store, and the examinations of a
head (R54-R69, R90). -/

namespace Sys2Proof.Proofs.Binder

open Sys2Proof Sys2Proof.Machine Sys2Proof.Proofs.Frames Sys2Proof.Proofs.Acts Sys2Proof.Proofs.Admission
  Sys2Proof.Proofs.Pacing Sys2Proof.Proofs.Roundings

/-! ## States that differ in few fields -/

/-- Two states with the same flows at every number that agree in the rest. -/
theorem eq_of_flows {s t : State} (h : ∀ f, s.flow f = t.flow f) (hrest : { s with flows := t.flows } = t) : s = t := by
  rw [← hrest, ← State.flows_ext h]

/-- The fields that the Binder's operations on a head change. -/
def HeadFrame (s t : State) : Prop := t = { s with flows := t.flows, legA := t.legA, legB := t.legB, store := t.store }

theorem HeadFrame.refl (s : State) : HeadFrame s s := rfl

theorem HeadFrame.trans {s t u : State} (h : HeadFrame s t) (k : HeadFrame t u) : HeadFrame s u := by
  unfold HeadFrame at *
  rw [k, h]

section
variable {s t u : State} {f : FlowId}

theorem alters_self {y : Flow} (h : Alters s t f y) : t.flow f = y := by rw [h f, if_pos rfl]

theorem alters_other {y : Flow} (h : Alters s t f y) {g : FlowId} (hg : g ≠ f) : t.flow g = s.flow g := by
  rw [h g, if_neg hg]

theorem alters_trans {x y : Flow} (h : Alters s t f x) (k : Alters t u f y) : Alters s u f y := fun g => by
  rw [k g]
  split
  · rfl
  next hg => exact alters_other h hg

theorem alters_refl (s : State) (f : FlowId) : Alters s s f (s.flow f) := fun g => by
  split
  next h => rw [h]
  · rfl

theorem alters_modFlow (s : State) (f : FlowId) (k : Flow → Flow) : Alters s (s.modFlow f k) f (k (s.flow f)) :=
  fun g => flow_modFlow s f g k

/-- A run of turns that each change the one flow. -/
theorem foldl_alters {turn : State → Leg → State} {k : Flow → Leg → Flow}
    (h : ∀ s l, Alters s (turn s l) f (k (s.flow f) l)) (ls : List Leg) (s : State) :
    Alters s (ls.foldl turn s) f (ls.foldl k (s.flow f)) := by
  induction ls generalizing s with
  | nil => exact alters_refl s f
  | cons l ls ih =>
    have hturn := ih (turn s l)
    rw [alters_self (h s l)] at hturn
    exact alters_trans (h s l) hturn

end

/-! ## Legs -/

section
variable {s t u : State}

/-- A run of turns, one for each of the legs of a flow, that each change the one leg. -/
theorem foldl_legs {turn : State → Leg → State} {k : EgressLeg → EgressLeg}
    (h : ∀ s l m, (turn s l).leg m = if m = l then k (s.leg l) else s.leg m) (legs : Legs) (s : State) (m : Leg) :
    (legs.list.foldl turn s).leg m = if legs.uses m then k (s.leg m) else s.leg m := by
  cases legs <;> cases m <;> simp [Legs.list, Legs.uses, h]

theorem leg_modLeg (s : State) (l m : Leg) (g : EgressLeg → EgressLeg) :
    (s.modLeg l g).leg m = if m = l then g (s.leg l) else s.leg m := by
  cases l <;> cases m <;> simp [State.modLeg, State.leg, State.setLeg]

end

/-! ## The head discarded -/

section
variable (s : State) (f : FlowId) (id : Nat)

theorem countLate_alters (l : Leg) :
    Alters s (s.countLate f l) f ((s.flow f).countOn l (fun c => { c with late := bump c.late })) := fun g => by
  rw [State.countLate, State.modLeg, State.flow_setLeg]
  exact flow_modFlow s f g _

theorem countLate_leg (l m : Leg) : (s.countLate f l).leg m =
    if m = l then (s.leg l).count (fun c => { c with lateTotal := bump c.lateTotal }) else s.leg m := by
  rw [State.countLate, leg_modLeg, State.modFlow, State.leg_setFlow, State.leg_setFlow]

theorem countLate_frame (l : Leg) : HeadFrame s (s.countLate f l) := by cases l <;> rfl

theorem lateHead_frame : HeadFrame s (s.lateHead f id) := by
  have hdrop : HeadFrame s (s.modFlow f Flow.dropHead) := rfl
  have hfold : HeadFrame (s.modFlow f Flow.dropHead) ((s.flow f).params.legs.list.foldl (fun t l => t.countLate f l)
      (s.modFlow f Flow.dropHead)) := foldl_rel HeadFrame.refl HeadFrame.trans (fun t l => countLate_frame t f l) _ _
  have hlast (t : State) : HeadFrame t ((t.modFlow f Flow.advance).release id) := rfl
  exact (hdrop.trans hfold).trans (hlast _)

/-- The record of a flow whose head is discarded as late (R63, R65). -/
def lateRecord (x : Flow) : Flow :=
  (x.params.legs.list.foldl (fun y l => y.countOn l (fun c => { c with late := bump c.late })) x.dropHead).advance

theorem lateHead_alters : Alters s (s.lateHead f id) f (lateRecord (s.flow f)) := by
  have hdrop := alters_modFlow s f Flow.dropHead
  have hfold := foldl_alters (f := f) (k := fun y l => y.countOn l (fun c => { c with late := bump c.late }))
    (fun t l => countLate_alters t f l) (s.flow f).params.legs.list
    (s.modFlow f Flow.dropHead)
  rw [alters_self hdrop] at hfold
  have hadvance := alters_modFlow ((s.flow f).params.legs.list.foldl (fun t l => t.countLate f l)
    (s.modFlow f Flow.dropHead)) f Flow.advance
  rw [alters_self hfold] at hadvance
  exact alters_trans (alters_trans hdrop hfold) hadvance

theorem lateHead_leg (m : Leg) : (s.lateHead f id).leg m = if (s.flow f).params.legs.uses m then
    (s.leg m).count (fun c => { c with lateTotal := bump c.lateTotal }) else s.leg m := by
  rw [State.lateHead, State.leg_release, State.modFlow, State.leg_setFlow,
    foldl_legs (k := fun x => x.count (fun c => { c with lateTotal := bump c.lateTotal }))
      (fun t l m => countLate_leg t f l m), State.modFlow, State.leg_setFlow]

theorem lateHead_store : (s.lateHead f id).store = s.store.release id := by
  rw [State.lateHead, State.release_store, State.modFlow_store, StationTime.foldl_keeps State.store (fun t l => by
    rw [State.countLate, State.modLeg_store, State.modFlow_store]), State.modFlow_store]

end

/-! ## The head bound -/

section
variable (s : State) (f : FlowId) (id : Nat)

/-- What a full leg queue loses to an append: its oldest unit (R90). -/
def lagging (q : List Nat) : List Nat := if 8 ≤ q.length then q.take 1 else []

/-- A unit appended to a leg queue (R64, R90). -/
def appendedQueue (q : List Nat) (id : Nat) : List Nat := (if 8 ≤ q.length then q.tail else q) ++ [id]

/-- A flow with a unit appended on a leg. -/
def appendedFlow (x : Flow) (id : Nat) (l : Leg) : Flow :=
  if 8 ≤ (x.queue l).length then
    (x.setQueue l (appendedQueue (x.queue l) id)).countOn l (fun c => { c with lag := bump c.lag })
  else x.setQueue l (appendedQueue (x.queue l) id)

theorem appendUnit_full (l : Leg) {old : Nat} {rest : List Nat} (hq : (s.flow f).queue l = old :: rest)
    (h : 8 ≤ (old :: rest).length) : s.appendUnit f id l =
      ((s.modFlow f (fun x => x.setQueue l (rest ++ [id]))).countLag f l 1).release old := by
  unfold State.appendUnit
  rw [hq]
  exact if_pos h

theorem appendUnit_room (l : Leg) (h : ¬ 8 ≤ ((s.flow f).queue l).length) :
    s.appendUnit f id l = s.modFlow f (fun x => x.setQueue l ((s.flow f).queue l ++ [id])) := by
  unfold State.appendUnit
  split
  next hq =>
    rw [hq] at h ⊢
    exact if_neg h
  next hq => rw [hq]; rfl

theorem countLag_alters (l : Leg) (d : Nat) :
    Alters s (s.countLag f l d) f ((s.flow f).countOn l (fun c => { c with lag := raise c.lag d })) := fun g => by
  rw [State.countLag, State.modLeg, State.flow_setLeg]
  exact flow_modFlow s f g _

theorem countLag_leg (l : Leg) (d : Nat) (m : Leg) : (s.countLag f l d).leg m =
    if m = l then (s.leg l).count (fun c => { c with lagTotal := raise c.lagTotal d }) else s.leg m := by
  rw [State.countLag, leg_modLeg, State.modFlow, State.leg_setFlow, State.leg_setFlow]

theorem countLag_store (l : Leg) (d : Nat) : (s.countLag f l d).store = s.store := by
  rw [State.countLag, State.modLeg_store, State.modFlow_store]

theorem appendUnit_alters (l : Leg) : Alters s (s.appendUnit f id l) f (appendedFlow (s.flow f) id l) := by
  unfold appendedFlow appendedQueue
  by_cases h : 8 ≤ ((s.flow f).queue l).length
  · obtain ⟨old, rest, hq⟩ : ∃ old rest, (s.flow f).queue l = old :: rest :=
      List.exists_cons_of_length_pos (by omega)
    rw [if_pos h, if_pos h, appendUnit_full s f id l hq (hq ▸ h), hq]
    have hset := alters_modFlow s f (fun x => x.setQueue l (rest ++ [id]))
    have hcount := countLag_alters (s.modFlow f (fun x => x.setQueue l (rest ++ [id]))) f l 1
    rw [alters_self hset] at hcount
    exact alters_trans hset hcount
  · rw [if_neg h, if_neg h, appendUnit_room s f id l h]
    exact alters_modFlow s f _

theorem appendUnit_leg (l m : Leg) : (s.appendUnit f id l).leg m =
    if m = l ∧ lagging ((s.flow f).queue l) ≠ [] then
      (s.leg l).count (fun c => { c with lagTotal := bump c.lagTotal }) else s.leg m := by
  unfold lagging
  by_cases h : 8 ≤ ((s.flow f).queue l).length
  · obtain ⟨old, rest, hq⟩ : ∃ old rest, (s.flow f).queue l = old :: rest :=
      List.exists_cons_of_length_pos (by omega)
    rw [if_pos h, appendUnit_full s f id l hq (hq ▸ h), State.leg_release, countLag_leg, State.modFlow,
      State.leg_setFlow, State.leg_setFlow, hq]
    simp
  · rw [if_neg h, appendUnit_room s f id l h, State.modFlow, State.leg_setFlow]
    simp

theorem appendUnit_store (l : Leg) :
    (s.appendUnit f id l).store = (lagging ((s.flow f).queue l)).foldl Store.release s.store := by
  unfold lagging
  by_cases h : 8 ≤ ((s.flow f).queue l).length
  · obtain ⟨old, rest, hq⟩ : ∃ old rest, (s.flow f).queue l = old :: rest :=
      List.exists_cons_of_length_pos (by omega)
    rw [if_pos h, appendUnit_full s f id l hq (hq ▸ h), State.release_store, countLag_store, State.modFlow_store, hq]
    rfl
  · rw [if_neg h, appendUnit_room s f id l h]
    rfl

theorem appendUnit_frame (l : Leg) : HeadFrame s (s.appendUnit f id l) := by
  unfold State.appendUnit
  split
  · split
    · cases l <;> rfl
    · rfl
  · rfl

theorem bindHead_frame (due : Nat) : HeadFrame s (s.bindHead f id due) := by
  rw [CellStore.bindHead_eq]
  have hdrop : HeadFrame s (CellStore.unqueued s f id due (s.flow f).params.legs.list.length) := rfl
  have hfold : HeadFrame (CellStore.unqueued s f id due (s.flow f).params.legs.list.length)
      ((s.flow f).params.legs.list.foldl (fun t l => t.appendUnit f id l)
        (CellStore.unqueued s f id due (s.flow f).params.legs.list.length)) :=
    foldl_rel HeadFrame.refl HeadFrame.trans (fun t l => appendUnit_frame t f id l) _ _
  have hlast (t : State) : HeadFrame t (t.modFlow f Flow.advance) := rfl
  exact (hdrop.trans hfold).trans (hlast _)

/-- The record of a flow whose head is bound (R64, R65). -/
def boundRecord (x : Flow) (id : Nat) : Flow :=
  (x.params.legs.list.foldl (fun y l => appendedFlow y id l) x.dropHead).advance

theorem unqueued_alters (due n : Nat) : Alters s (CellStore.unqueued s f id due n) f (s.flow f).dropHead :=
  alters_modFlow { s with store := s.store.bind id due n } f Flow.dropHead

theorem bindHead_alters (due : Nat) : Alters s (s.bindHead f id due) f (boundRecord (s.flow f) id) := by
  rw [CellStore.bindHead_eq]
  have hdrop := unqueued_alters s f id due (s.flow f).params.legs.list.length
  have hfold := foldl_alters (f := f) (k := fun y l => appendedFlow y id l)
    (fun t l => appendUnit_alters t f id l) (s.flow f).params.legs.list
    (CellStore.unqueued s f id due (s.flow f).params.legs.list.length)
  rw [alters_self hdrop] at hfold
  have hadvance := alters_modFlow ((s.flow f).params.legs.list.foldl (fun t l => t.appendUnit f id l)
    (CellStore.unqueued s f id due (s.flow f).params.legs.list.length)) f Flow.advance
  rw [alters_self hfold] at hadvance
  exact alters_trans (alters_trans hdrop hfold) hadvance

end

/-- The other leg's queue stays in an append. -/
theorem appendedFlow_queue (x : Flow) (id : Nat) (l m : Leg) :
    (appendedFlow x id l).queue m = if m = l then appendedQueue (x.queue l) id else x.queue m := by
  unfold appendedFlow
  cases l <;> cases m <;> split <;> rfl

section
variable (s : State) (f : FlowId) (id : Nat)

/-- The appends on each of the legs of a flow: every leg's queue is read as it stood before all of them. -/
theorem appendUnits_leg (legs : Legs) (m : Leg) :
    (legs.list.foldl (fun t l => t.appendUnit f id l) s).leg m =
      if legs.uses m ∧ lagging ((s.flow f).queue m) ≠ [] then
        (s.leg m).count (fun c => { c with lagTotal := bump c.lagTotal }) else s.leg m := by
  have hqueue (l m : Leg) (h : m ≠ l) : ((s.appendUnit f id l).flow f).queue m = (s.flow f).queue m := by
    rw [alters_self (appendUnit_alters s f id l), appendedFlow_queue, if_neg h]
  cases legs <;> cases m <;> simp [Legs.list, Legs.uses, appendUnit_leg, hqueue]

theorem appendUnits_store (legs : Legs) :
    (legs.list.foldl (fun t l => t.appendUnit f id l) s).store =
      ((if legs.uses .a then lagging (s.flow f).queueA else []) ++
        (if legs.uses .b then lagging (s.flow f).queueB else [])).foldl Store.release s.store := by
  have hqueue : ((s.appendUnit f id .a).flow f).queue .b = (s.flow f).queue .b := by
    rw [alters_self (appendUnit_alters s f id .a), appendedFlow_queue, if_neg (by decide)]
  cases legs with
  | none => rfl
  | a =>
    simp only [Legs.list, Legs.uses, List.foldl_cons, List.foldl_nil, appendUnit_store, if_true,
      Bool.false_eq_true, if_false, List.append_nil]
    rfl
  | b =>
    simp only [Legs.list, Legs.uses, List.foldl_cons, List.foldl_nil, appendUnit_store, if_true,
      Bool.false_eq_true, if_false, List.nil_append]
    rfl
  | dual =>
    simp only [Legs.list, Legs.uses, List.foldl_cons, List.foldl_nil, appendUnit_store, if_true, hqueue,
      List.foldl_append]
    rfl

theorem legs_length (legs : Legs) (h : 1 ≤ legs.list.length) :
    legs.list.length = if legs = .dual then 2 else 1 := by
  cases legs <;> simp_all [Legs.list]

theorem bindHead_leg (due : Nat) (m : Leg) : (s.bindHead f id due).leg m =
    if (s.flow f).params.legs.uses m ∧ lagging ((s.flow f).queue m) ≠ [] then
      (s.leg m).count (fun c => { c with lagTotal := bump c.lagTotal }) else s.leg m := by
  have hqueue : ((CellStore.unqueued s f id due (s.flow f).params.legs.list.length).flow f).queue m =
      (s.flow f).queue m := by
    rw [alters_self (unqueued_alters s f id due _)]
    cases m <;> rfl
  rw [CellStore.bindHead_eq, State.modFlow, State.leg_setFlow, appendUnits_leg, hqueue]
  cases m <;> rfl

theorem bindHead_store (due : Nat) : (s.bindHead f id due).store =
    ((if (s.flow f).params.legs.uses .a then lagging (s.flow f).queueA else []) ++
      (if (s.flow f).params.legs.uses .b then lagging (s.flow f).queueB else [])).foldl Store.release
        (s.store.bind id due (s.flow f).params.legs.list.length) := by
  rw [CellStore.bindHead_eq, State.modFlow_store, appendUnits_store, alters_self (unqueued_alters s f id due _)]
  rfl

end

end Sys2Proof.Proofs.Binder
end

section
/-! The examinations of a head, command by command (R54-R66, R90). -/

namespace Sys2Proof.Proofs.Binder

open Sys2Proof Sys2Proof.Machine Sys2Proof.Proofs.Frames Sys2Proof.Proofs.Acts Sys2Proof.Proofs.Admission
  Sys2Proof.Proofs.Pacing Sys2Proof.Proofs.Roundings

section
variable {s : State} {f : FlowId} {id now : Nat} {rest : List Nat} (hreset : s.inReset = false)
  (hq : (s.flow f).intakeQ = id :: rest) (hnow : s.now? = some now) (hb : (s.flow f).bindable = true)
include hreset hq hnow hb

theorem exec_examination :
    exec (.binderExamination f) s = .next (s.examineHead f id (s.unitFrameStart id) now) := by
  change execBinderExamination f s = _
  unfold execBinderExamination
  rw [hq, hnow]
  exact whenever_true hreset hb

theorem exec_examination_locked {p : Position} (hp : (s.flow f).lock = some p) :
    exec (.binderExamination f) s = .next (s.lockedHead f id (s.unitFrameStart id) now) := by
  rw [exec_examination hreset hq hnow hb, State.examineHead, hp]

theorem exec_examination_unlocked (hp : (s.flow f).lock = none) :
    exec (.binderExamination f) s = .next (s.unlockedHead f id (s.unitFrameStart id) now) := by
  rw [exec_examination hreset hq hnow hb, State.examineHead, hp]

end

/-! ## Which step a head of a LOCKED flow takes -/

theorem exceeds_iff (now x limit : Nat) : exceeds now x limit = true ↔ (limit : ℤ) < (now : ℤ) - x := by
  rw [exceeds, decide_eq_true_iff]

theorem late_iff (p : Params) (now due : Nat) :
    p.late now due = true ↔ 0 < p.w ∧ (p.w * 1000 : ℤ) < (now : ℤ) - due := by
  rw [Params.late, Bool.and_eq_true, decide_eq_true_iff, exceeds_iff]
  push_cast
  rfl

section
variable {s : State} {f : FlowId} {p : Position} (hp : (s.flow f).lock = some p) (id now : Nat)
include hp

theorem frameHead_ahead (h : ¬ ((s.flow f).derived.wf : ℤ) < (now : ℤ) - (p.q + (s.flow f).params.o : ℕ)) :
    s.frameHead f id now = s.placeHead f id now := by
  rw [State.frameHead, hp]
  refine if_neg fun hlate => h ?_
  exact (exceeds_iff _ _ _).mp hlate

theorem frameHead_behind (h : ((s.flow f).derived.wf : ℤ) < (now : ℤ) - (p.q + (s.flow f).params.o : ℕ)) :
    s.frameHead f id now = (s.relockFlow f now p).placeHead f id now := by
  rw [State.frameHead, hp]
  exact if_pos ((exceeds_iff _ _ _).mpr h)

theorem lockedHead_essence_ahead (hc : (s.flow f).params.cls = .essence) (fs : Bool)
    (h : ¬ ((s.flow f).derived.wf : ℤ) < (now : ℤ) - (p.q + (s.flow f).params.o + p.off : ℕ)) :
    s.lockedHead f id fs now = s.placeHead f id now := by
  rw [State.lockedHead, if_pos hc, State.essenceHead, hp]
  refine if_neg fun hlate => h ?_
  exact (exceeds_iff _ _ _).mp hlate

theorem lockedHead_essence_behind (hc : (s.flow f).params.cls = .essence) (fs : Bool)
    (h : ((s.flow f).derived.wf : ℤ) < (now : ℤ) - (p.q + (s.flow f).params.o + p.off : ℕ)) :
    s.lockedHead f id fs now = (s.relockFlow f now p).placeHead f id now := by
  rw [State.lockedHead, if_pos hc, State.essenceHead, hp]
  exact if_pos ((exceeds_iff _ _ _).mpr h)

theorem lockedHead_frameStart (hc : (s.flow f).params.cls ≠ .essence) (hj : p.j = 0) :
    s.lockedHead f id true now = s.frameHead f id now := by
  rw [State.lockedHead, if_neg hc, State.rasterHead, hp]
  simp [hj]

theorem lockedHead_shortFrame (hc : (s.flow f).params.cls ≠ .essence) (hj : p.j ≠ 0) :
    s.lockedHead f id true now = (s.shortFrame f p).frameHead f id now := by
  rw [State.lockedHead, if_neg hc, State.rasterHead, hp]
  simp [hj]

theorem lockedHead_longFrame (hc : (s.flow f).params.cls ≠ .essence) (hj : p.j = 0) :
    s.lockedHead f id false now = s.discardHead f id (fun c => { c with longFrame := bump c.longFrame }) := by
  rw [State.lockedHead, if_neg hc, State.rasterHead, hp]
  simp [hj]

theorem lockedHead_inFrame (hc : (s.flow f).params.cls ≠ .essence) (hj : p.j ≠ 0) :
    s.lockedHead f id false now = s.placeHead f id now := by
  rw [State.lockedHead, if_neg hc, State.rasterHead, hp]
  simp [hj]

theorem placeHead_late (h : (s.flow f).params.late now (p.due (s.flow f).params) = true) :
    s.placeHead f id now = s.lateHead f id := by
  rw [State.placeHead, hp]
  exact if_pos h

theorem placeHead_bound (h : (s.flow f).params.late now (p.due (s.flow f).params) ≠ true) :
    s.placeHead f id now = s.bindHead f id (p.due (s.flow f).params) := by
  rw [State.placeHead, hp]
  exact if_neg h

end

/-! ## Heads without FRAME_START (R57, R60) -/

theorem discardHead_eq (s : State) (f : FlowId) (id : Nat) {rest : List Nat} (hq : (s.flow f).intakeQ = id :: rest)
    (g : FlowCounters → FlowCounters) : s.discardHead f id g =
      { s.setFlow f { s.flow f with intakeQ := rest, counters := g (s.flow f).counters } with
        store := s.store.release id } := by
  rw [State.discardHead, State.modFlow, Flow.dropHead, hq]
  rfl

/-- Settles O25: the head leaves the queue with its count, at an UNLOCKED flow and at j = 0 alike. -/
theorem headsWithoutFrameStartDiscarded : Obligations.HeadsWithoutFrameStartDiscarded := by
  intro f s id now rest hreset hq hnow hb hc hfs x
  refine ⟨fun hp => ?_, fun p hp hj => ?_⟩
  · rw [exec_examination_unlocked hreset hq hnow hb hp, State.unlockedHead, hfs,
      if_neg (by simpa using hc), discardHead_eq s f id hq]
  · rw [exec_examination_locked hreset hq hnow hb hp, hfs, lockedHead_longFrame hp id now hc hj,
      discardHead_eq s f id hq]

/-! ## The lateness step (R63-R66) -/

theorem advance_eq (p : Position) (x : Params) (d : Derived) : p.advance x d =
    if p.j + 1 < x.n then
      if p.rem + d.rs < d.sd then { p with j := p.j + 1, off := p.off + d.qs, rem := p.rem + d.rs }
      else { p with j := p.j + 1, off := p.off + d.qs + 1, rem := p.rem + d.rs - d.sd }
    else if p.r + d.prem < x.pd then
      { p with k := p.k + 1, j := 0, q := p.q + d.pint, r := p.r + d.prem, off := 0, rem := 0 }
    else
      { p with k := p.k + 1, j := 0, q := p.q + d.pint + 1, r := p.r + d.prem - x.pd, off := 0, rem := 0 } := by
  unfold Position.advance Position.nextIndex Position.nextFrame
  by_cases hj : p.j + 1 < x.n
  · rw [if_pos hj, if_pos hj]
    by_cases h : d.sd ≤ p.rem + d.rs
    · rw [if_pos h, if_neg (Nat.not_lt.mpr h), Nat.add_assoc]
    · rw [if_neg h, if_pos (Nat.not_le.mp h)]
  · rw [if_neg hj, if_neg hj]
    by_cases h : x.pd ≤ p.r + d.prem
    · rw [if_pos h, if_neg (Nat.not_lt.mpr h), Nat.add_assoc p.q]
    · rw [if_neg h, if_pos (Nat.not_le.mp h)]

theorem lateRecord_eq {x : Flow} {p : Position} {id : Nat} {rest : List Nat} (hp : x.lock = some p)
    (hq : x.intakeQ = id :: rest) : lateRecord x = { x with
      lock := some (p.advance x.params x.derived)
      intakeQ := rest
      counters := { x.counters with
        legA := if x.params.legs.uses .a then
          { x.counters.legA with late := bump x.counters.legA.late } else x.counters.legA
        legB := if x.params.legs.uses .b then
          { x.counters.legB with late := bump x.counters.legB.late } else x.counters.legB } } := by
  unfold lateRecord Flow.advance
  cases hl : x.params.legs <;>
    simp [Legs.list, Legs.uses, Flow.countOn, Flow.dropHead, FlowCounters.setLeg, FlowCounters.leg, Flow.moveTo, hp, hq]

theorem boundRecord_eq {x : Flow} {p : Position} {id : Nat} {rest : List Nat} (hp : x.lock = some p)
    (hq : x.intakeQ = id :: rest) : boundRecord x id = { x with
      lock := some (p.advance x.params x.derived)
      intakeQ := rest
      queueA := if x.params.legs.uses .a then appendedQueue x.queueA id else x.queueA
      queueB := if x.params.legs.uses .b then appendedQueue x.queueB id else x.queueB
      counters := { x.counters with
        legA := if x.params.legs.uses .a ∧ lagging x.queueA ≠ [] then
          { x.counters.legA with lag := bump x.counters.legA.lag } else x.counters.legA
        legB := if x.params.legs.uses .b ∧ lagging x.queueB ≠ [] then
          { x.counters.legB with lag := bump x.counters.legB.lag } else x.counters.legB } } := by
  have hlag (q : List Nat) : lagging q ≠ [] ↔ 8 ≤ q.length := by
    unfold lagging
    split
    next h =>
      refine iff_of_true ?_ h
      rw [Ne, List.take_eq_nil_iff]
      rintro (h0 | rfl)
      · exact absurd h0 (by decide)
      · exact absurd h (by decide)
    next h => exact iff_of_false (fun hne => hne rfl) h
  unfold boundRecord Flow.advance
  simp only [hlag]
  by_cases ha : 8 ≤ x.queueA.length <;> by_cases hb : 8 ≤ x.queueB.length <;> cases hl : x.params.legs <;>
    simp [Legs.list, Legs.uses, appendedFlow, Flow.countOn, Flow.dropHead, FlowCounters.setLeg, FlowCounters.leg,
      Flow.moveTo, Flow.queue, Flow.setQueue, hp, hq, ha, hb]

theorem bindable_legs_length {x : Flow} (h : x.bindable = true) :
    x.params.legs.list.length = if x.params.legs = .dual then 2 else 1 :=
  legs_length _ (CellStore.bindable_legs h)

/-- Settles O26: every head that comes to the lateness step is discarded or bound there, whatever its class. -/
theorem headsBoundOrLate : Obligations.HeadsBoundOrLate := by
  intro f s id now rest p hreset hq hnow hb hp x frame due hcond next lagged appended lag
  have hplace : exec (.binderExamination f) s = .next (s.placeHead f id now) := by
    rw [exec_examination_locked hreset hq hnow hb hp]
    by_cases hc : x.params.cls = .essence
    · rw [if_pos hc] at hcond
      rw [lockedHead_essence_ahead hp id now hc _ hcond]
    · rw [if_neg hc] at hcond
      cases hfs : s.unitFrameStart id with
      | true =>
        rw [hfs, if_pos rfl] at hcond
        obtain ⟨hj, hahead⟩ := hcond
        rw [lockedHead_frameStart hp id now hc hj, frameHead_ahead hp id now hahead]
      | false =>
        rw [hfs, if_neg Bool.false_ne_true] at hcond
        rw [lockedHead_inFrame hp id now hc hcond]
  have hnext : p.advance x.params x.derived = next := advance_eq p x.params x.derived
  have hlate := late_iff x.params now due
  split
  next h =>
    rw [hplace, placeHead_late hp id now (hlate.mpr h)]
    refine congrArg _ (eq_of_flows (fun g => ?_) ?_)
    · rw [lateHead_alters s f id g, lateRecord_eq hp hq, hnext]
      exact (s.flow_setFlow f g _).symm
    · rw [lateHead_frame s f id, lateHead_store s f id]
      have ha := lateHead_leg s f id .a
      have hb := lateHead_leg s f id .b
      simp only [State.leg] at ha hb
      rw [ha, hb]
      rfl
  next h =>
    refine ⟨_, hplace, ?_⟩
    rw [placeHead_bound hp id now (fun hl => h (hlate.mp hl))]
    have hlagging (q : List Nat) : lagged q = lagging q := rfl
    have hlag (l : Leg) : lag l = 0 ↔ ¬ ((s.flow f).params.legs.uses l = true ∧ lagging ((s.flow f).queue l) ≠ []) := by
      change (if x.params.legs.uses l then (lagging (x.queue l)).length else 0) = 0 ↔ _
      split
      next hu => simp [show (s.flow f).params.legs.uses l = true from hu, x]
      next hu => simp [show ¬ (s.flow f).params.legs.uses l = true from hu]
    have hboth (l : Leg) {α : Type} (y z : α) :
        (if (s.flow f).params.legs.uses l = true ∧ lagging ((s.flow f).queue l) ≠ [] then y else z) =
          if lag l = 0 then z else y := by
      by_cases hl : lag l = 0
      · rw [if_pos hl, if_neg ((hlag l).mp hl)]
      · rw [if_neg hl, if_pos (not_not.mp fun hn => hl ((hlag l).mpr hn))]
    have halters := bindHead_alters s f id (p.due x.params)
    refine ⟨?_, fun g hg => alters_other halters hg, fun l => ?_, ?_, ?_⟩
    · rw [alters_self halters, boundRecord_eq hp hq, hnext]
      exact congrArg₂ (fun a b => { x with
        lock := some next
        intakeQ := rest
        queueA := appended .a x.queueA
        queueB := appended .b x.queueB
        counters := { x.counters with legA := a, legB := b } }) (hboth .a _ _) (hboth .b _ _)
    · rw [bindHead_leg, hboth]
      rfl
    · rw [bindHead_store, bindable_legs_length hb]
      rfl
    · exact bindHead_frame s f id _

end Sys2Proof.Proofs.Binder
end

section
/-! Lock, SHORT_FRAME and re-lock (R53-R62): where the position goes, and the examination from there. -/

namespace Sys2Proof.Proofs.Binder

open Sys2Proof Sys2Proof.Machine Sys2Proof.Proofs.Frames Sys2Proof.Proofs.Acts Sys2Proof.Proofs.Admission
  Sys2Proof.Proofs.Pacing Sys2Proof.Proofs.Roundings Sys2Proof.Proofs.CellStore

/-! ## Positions (R22, R24) -/

section
variable {x : Params} {p : Position}

theorem nextFrame_eq (hpd : 0 < x.pd) (hq : p.q = p.k * x.pn / x.pd) (hr : p.r = p.k * x.pn % x.pd) :
    p.nextFrame x x.derive =
      { k := p.k + 1, j := 0, q := (p.k + 1) * x.pn / x.pd, r := (p.k + 1) * x.pn % x.pd, off := 0, rem := 0,
        lockFrame := p.lockFrame } := by
  rw [floor_succ p.k x.pn hpd, remainder_succ p.k x.pn x.pd]
  simp only [Position.nextFrame, Params.derive, Params.pint, hq, hr]
  split <;> rfl

theorem nextIndex_eq (hsd : 0 < x.sd) (hoff : p.off = p.j * x.sn / x.sd) (hrem : p.rem = p.j * x.sn % x.sd) :
    p.nextIndex x.derive =
      { p with j := p.j + 1, off := (p.j + 1) * x.sn / x.sd, rem := (p.j + 1) * x.sn % x.sd } := by
  rw [floor_succ p.j x.sn hsd, remainder_succ p.j x.sn x.sd]
  simp only [Position.nextIndex, Params.derive, hoff, hrem]
  split <;> rfl

end

/-- The carried pairs of a position are the direct formulas at its (k,j), with j below N (R22, R24). -/
structure Direct (x : Params) (p : Position) : Prop where
  q : p.q = p.k * x.pn / x.pd
  r : p.r = p.k * x.pn % x.pd
  off : p.off = p.j * x.sn / x.sd
  rem : p.rem = p.j * x.sn % x.sd
  below : p.j < x.n

section
variable {x : Params} (h : x.Paced)
include h

theorem direct_atLock (k : Nat) : Direct x (Position.atLock x k) :=
  ⟨rfl, rfl, by simp [Position.atLock], by simp [Position.atLock], paced_n_pos h⟩

theorem direct_nextFrame {p : Position} (hp : Direct x p) : Direct x (p.nextFrame x x.derive) := by
  rw [nextFrame_eq (paced_pd_pos h) hp.q hp.r]
  exact ⟨rfl, rfl, by simp, by simp, paced_n_pos h⟩

theorem direct_advance {p : Position} (hp : Direct x p) : Direct x (p.advance x x.derive) := by
  unfold Position.advance
  split
  next hj =>
    rw [nextIndex_eq (paced_sd_pos h) hp.off hp.rem]
    exact ⟨hp.q, hp.r, rfl, rfl, hj⟩
  · exact direct_nextFrame h hp

/-- Off the lock frame a binding takes the position to (k,1), or to (k + 1,0) where a frame holds one unit. -/
theorem advance_atLock (k : Nat) : (Position.atLock x k).advance x x.derive =
    if 1 < x.n then
      { k := k, j := 1, q := k * x.pn / x.pd, r := k * x.pn % x.pd, off := x.sn / x.sd, rem := x.sn % x.sd,
        lockFrame := k }
    else
      { k := k + 1, j := 0, q := (k + 1) * x.pn / x.pd, r := (k + 1) * x.pn % x.pd, off := 0, rem := 0,
        lockFrame := k } := by
  have hlock := direct_atLock h k
  unfold Position.advance
  by_cases hn : 1 < x.n
  · rw [if_pos hn, if_pos (show (Position.atLock x k).j + 1 < x.n from hn),
      nextIndex_eq (paced_sd_pos h) hlock.off hlock.rem]
    simp [Position.atLock]
  · rw [if_neg hn, if_neg (show ¬ (Position.atLock x k).j + 1 < x.n from hn),
      nextFrame_eq (paced_pd_pos h) hlock.q hlock.r]
    rfl

end

/-- What a sound LOCKED flow gives. -/
theorem locked_sound {x : Flow} (h : x.Sound) {p : Position} (hp : x.lock = some p) :
    (x.state = .running ∨ x.state = .draining) ∧ x.derived = x.params.derive ∧ x.params.Paced ∧ Direct x.params p := by
  obtain ⟨hst, hq, hr, hoff, hrem, hj⟩ := h.locked p hp
  obtain ⟨hd, hpaced⟩ := h.declared (by rintro hf; rw [hf] at hst; simp at hst)
  exact ⟨hst, hd, hpaced, hq, hr, hoff, hrem, hj⟩

theorem holdsLoad_of_bindable {x : Flow} (h : x.bindable = true) : x.holdsLoad = true := by
  rw [Flow.bindable, Bool.and_eq_true] at h
  exact h.1

/-- A flow that may be examined is declared. -/
theorem bindable_declared {x : Flow} (h : x.Sound) (hb : x.bindable = true) :
    x.derived = x.params.derive ∧ x.params.Paced :=
  h.declared (holdsLoad_state (holdsLoad_of_bindable hb)).1

/-! ## Lock (R56) -/

/-- A frame that starts ahead of now is neither too far behind nor late. -/
theorem not_behind {now start limit : Nat} (h : now + 8000 ≤ start) : ¬ (limit : ℤ) < (now : ℤ) - start := by
  omega

section
variable (s : State) (f : FlowId) (now : Nat)

/-- The record of a flow that locks. -/
def lockedRecord (x : Flow) (now : Nat) : Flow :=
  { x.noCredit with
    lock := some (Position.atLock x.params (x.params.lockFrame now))
    state := if x.state = .armed then .running else x.state }

theorem lockFlow_alters : Alters s (s.lockFlow f now) f (lockedRecord (s.flow f) now) := fun g =>
  flow_modFlow s f g (fun x => lockedRecord x now)

/-- From the lock frame on the head is bound, whatever the flow's class, where it may lock the flow. -/
theorem lockedHead_ahead {s : State} {f : FlowId} {now k : Nat} (id : Nat) {fs : Bool}
    (hp : (s.flow f).lock = some (Position.atLock (s.flow f).params k)) (hahead : now + 8000 ≤ (s.flow f).params.frameStart k)
    (hc : (s.flow f).params.cls = .essence ∨ fs = true) :
    s.lockedHead f id fs now = s.placeHead f id now := by
  by_cases hess : (s.flow f).params.cls = .essence
  · exact lockedHead_essence_ahead hp id now hess fs (not_behind hahead)
  · obtain rfl := hc.resolve_left hess
    rw [lockedHead_frameStart hp id now hess rfl, frameHead_ahead hp id now (not_behind hahead)]

theorem placeHead_ahead {s : State} {f : FlowId} {now k : Nat} (id : Nat)
    (hp : (s.flow f).lock = some (Position.atLock (s.flow f).params k)) (hahead : now + 8000 ≤ (s.flow f).params.frameStart k) :
    s.placeHead f id now = s.bindHead f id ((s.flow f).params.frameStart k) := by
  rw [placeHead_bound hp id now fun hlate => ?_]
  · rfl
  · obtain ⟨-, h⟩ := (late_iff _ _ _).mp hlate
    have hb := not_behind (limit := (s.flow f).params.w * 1000) hahead
    push_cast at hb
    exact hb h

end

/-- Settles O24: the lock frame starts ahead of now, so that the head that locks the flow is bound at once. -/
theorem lockBindsTheHead : Obligations.LockBindsTheHead := by
  intro f s id now rest hreset hq hnow hb hnone hsound hlock x k
  obtain ⟨hderived, hpaced⟩ := bindable_declared hsound hb
  have hahead : now + 8000 ≤ x.params.frameStart k := lead_le_lockFrame x.params now (paced_pn_pos hpaced) (paced_pd_pos hpaced)
  have halters := lockFlow_alters s f now
  have hself := alters_self halters
  have hp : ((s.lockFlow f now).flow f).lock = some (Position.atLock ((s.lockFlow f now).flow f).params k) := by
    rw [hself]; rfl
  have hahead' : now + 8000 ≤ ((s.lockFlow f now).flow f).params.frameStart k := by rw [hself]; exact hahead
  have hcond : (s.flow f).params.cls = .essence || s.unitFrameStart id := by
    obtain h | h := hlock <;> simp [h]
  have hexec : exec (.binderExamination f) s = .next ((s.lockFlow f now).bindHead f id (x.params.frameStart k)) := by
    rw [exec_examination_unlocked hreset hq hnow hb hnone, State.unlockedHead, if_pos hcond,
      lockedHead_ahead id hp hahead' (by rw [hself]; exact hlock), placeHead_ahead id hp hahead', hself]
    rfl
  have hqueue (l : Leg) : x.queue l = [] := (hsound.unlocked hnone l).1
  have hqa : x.queueA = [] := hqueue .a
  have hqb : x.queueB = [] := hqueue .b
  rw [hexec]
  refine congrArg _ (eq_of_flows (fun g => ?_) ?_)
  · have hbound := alters_trans halters (bindHead_alters (s.lockFlow f now) f id (x.params.frameStart k))
    rw [hbound g, hself, boundRecord_eq (hself ▸ hp) (show (lockedRecord x now).intakeQ = id :: rest from hq)]
    refine Eq.trans ?_ (s.flow_setFlow f g _).symm
    have hadvance := advance_atLock hpaced k
    rw [← hderived] at hadvance
    have hnone : ¬ 8 ≤ 0 := by decide
    simp only [lockedRecord, Flow.noCredit, hqa, hqb, appendedQueue, lagging, List.length_nil, hnone, if_false,
      List.nil_append, ne_eq, not_true_eq_false, and_false]
    rw [show (Position.atLock (s.flow f).params ((s.flow f).params.lockFrame now)).advance (s.flow f).params
      (s.flow f).derived = _ from hadvance]
  · have hleg (m : Leg) : ((s.lockFlow f now).bindHead f id (x.params.frameStart k)).leg m = s.leg m := by
      rw [bindHead_leg, hself, if_neg]
      · rfl
      · rintro ⟨-, hne⟩
        refine hne ?_
        have : (lockedRecord (s.flow f) now).queue m = [] := by
          rw [← hqueue m]
          cases m <;> rfl
        rw [this]
        rfl
    have hstore : ((s.lockFlow f now).bindHead f id (x.params.frameStart k)).store =
        s.store.bind id (x.params.frameStart k) (if x.params.legs = .dual then 2 else 1) := by
      have hla : lagging (lockedRecord (s.flow f) now).queueA = [] := by
        rw [show (lockedRecord (s.flow f) now).queueA = [] from hqa]; rfl
      have hlb : lagging (lockedRecord (s.flow f) now).queueB = [] := by
        rw [show (lockedRecord (s.flow f) now).queueB = [] from hqb]; rfl
      rw [bindHead_store, hself, hla, hlb, ite_self, ite_self, ← bindable_legs_length hb]
      rfl
    have ha := hleg .a
    have hb := hleg .b
    simp only [State.leg] at ha hb
    rw [bindHead_frame (s.lockFlow f now) f id (x.params.frameStart k), hstore, ha, hb]
    rfl

theorem unitFrameStart_congr {s t : State} {id : Nat} (h : t.store.find id = s.store.find id) :
    t.unitFrameStart id = s.unitFrameStart id := by
  rw [State.unitFrameStart, State.unitFrameStart, h]

/-! ## SHORT_FRAME (R59) -/

/-- The record of a flow whose frame ended early. -/
def shortenedRecord (x : Flow) (p : Position) : Flow :=
  { x with
    lock := some { k := p.k + 1, j := 0, q := (p.k + 1) * x.params.pn / x.params.pd,
                   r := (p.k + 1) * x.params.pn % x.params.pd, off := 0, rem := 0,
                   lockFrame := p.lockFrame }
    counters := { x.counters with shortFrame := bump x.counters.shortFrame } }

theorem shortFrame_eq {s : State} {f : FlowId} {p : Position} (hsound : (s.flow f).Sound)
    (hp : (s.flow f).lock = some p) : s.shortFrame f p = s.setFlow f (shortenedRecord (s.flow f) p) := by
  obtain ⟨-, hderived, hpaced, hdirect⟩ := locked_sound hsound hp
  have hnext := nextFrame_eq (paced_pd_pos hpaced) hdirect.q hdirect.r
  rw [← hderived] at hnext
  rw [State.shortFrame, State.modFlow, hnext]
  rfl

/-- Settles O27: the frame that ended early is counted and the head stands at the next frame's start. -/
theorem shortFrameMovesToTheNext : Obligations.ShortFrameMovesToTheNext := by
  intro f s id now rest p hreset hq hnow hb hsound hp hc hfs hj x
  have hself : (s.setFlow f (shortenedRecord x p)).flow f = shortenedRecord x p := s.flow_setFlow_self f _
  have hleft : exec (.binderExamination f) s =
      .next ((s.setFlow f (shortenedRecord x p)).frameHead f id now) := by
    rw [exec_examination_locked hreset hq hnow hb hp, hfs, lockedHead_shortFrame hp id now hc hj,
      shortFrame_eq hsound hp]
  have hright : exec (.binderExamination f) (s.setFlow f (shortenedRecord x p)) =
      .next ((s.setFlow f (shortenedRecord x p)).frameHead f id now) := by
    have hqueued : ((s.setFlow f (shortenedRecord x p)).flow f).intakeQ = id :: rest := by rw [hself]; exact hq
    have hbound : ((s.setFlow f (shortenedRecord x p)).flow f).bindable = true := by rw [hself]; exact hb
    have hclass : ((s.setFlow f (shortenedRecord x p)).flow f).params.cls ≠ .essence := by rw [hself]; exact hc
    rw [exec_examination_locked (s := s.setFlow f (shortenedRecord x p)) hreset hqueued hnow hbound
      (congrArg Flow.lock hself), unitFrameStart_congr (t := s.setFlow f (shortenedRecord x p)) (s := s) rfl, hfs,
      lockedHead_frameStart (congrArg Flow.lock hself) id now hclass rfl]
  rw [hleft]
  exact hright.symm

/-! ## Re-lock (R61, R62, R66) -/

section
variable (s : State) (f : FlowId)

theorem lagQueue_alters (l : Leg) : Alters s (s.lagQueue f l) f
    (((s.flow f).setQueue l []).countOn l (fun c => { c with lag := raise c.lag ((s.flow f).queue l).length })) := by
  have hset := alters_modFlow s f (fun x => x.setQueue l [])
  have hcount := countLag_alters (s.modFlow f (fun x => x.setQueue l [])) f l ((s.flow f).queue l).length
  rw [alters_self hset] at hcount
  intro g
  rw [State.lagQueue, State.flow_releaseAll]
  exact alters_trans hset hcount g

theorem lagQueue_leg (l m : Leg) : (s.lagQueue f l).leg m = if m = l then
    (s.leg l).count (fun c => { c with lagTotal := raise c.lagTotal ((s.flow f).queue l).length }) else s.leg m := by
  rw [State.lagQueue, State.leg_releaseAll, countLag_leg, State.modFlow, State.leg_setFlow, State.leg_setFlow]

theorem lagQueue_store (l : Leg) : (s.lagQueue f l).store = ((s.flow f).queue l).foldl Store.release s.store := by
  rw [State.lagQueue, State.releaseAll_eq]
  change List.foldl Store.release (State.countLag _ f l _).store _ = _
  rw [countLag_store]
  rfl

theorem lagQueue_frame (l : Leg) : HeadFrame s (s.lagQueue f l) := by
  rw [State.lagQueue, State.releaseAll_eq]
  cases l <;> rfl

/-- The flow at its new lock frame, its leg queues still to be emptied. -/
def repositioned (now : Nat) (p : Position) : State :=
  s.modFlow f (fun x =>
    { x.noCredit with
      lock := some (Position.atLock x.params (x.params.lockFrame now))
      counters := { x.counters with skipped := raise x.counters.skipped (x.params.lockFrame now - p.k) } })

theorem relockFlow_eq (now : Nat) (p : Position) : s.relockFlow f now p =
    ((s.flow f).params.legs.list.foldl (fun t l => t.lagQueue f l) (repositioned s f now p)).emit
      (.flowLock f .relocked ((s.flow f).params.lockFrame now)) := rfl

end

/-- A flow that uses a leg alone has no queue on the other. -/
theorem unused_queue {x : Flow} (h : x.Sound) {l : Leg} (hl : x.params.legs.uses l = false) : x.queue l = [] := by
  have hq := h.queues l
  rw [hl] at hq
  split at hq
  next hd =>
    rw [hd] at hl
    cases l <;> exact absurd hl (by decide)
  · exact List.length_eq_zero_iff.mp (Nat.le_zero.mp hq)

/-- The record of a flow that re-locks (R61, R62). -/
def relockedRecord (x : Flow) (k k' : Nat) : Flow :=
  let lagLeg (l : Leg) (c : LegCounts) : LegCounts :=
    if x.params.legs.uses l then { c with lag := raise c.lag (x.queue l).length } else c
  { x with
    lock := some { k := k, j := 0, q := k * x.params.pn / x.params.pd, r := k * x.params.pn % x.params.pd,
                   off := 0, rem := 0, lockFrame := k }
    creditA := 0
    creditB := 0
    queueA := []
    queueB := []
    counters := { x.counters with
      skipped := raise x.counters.skipped (k - k')
      legA := lagLeg .a x.counters.legA
      legB := lagLeg .b x.counters.legB } }

theorem relockFlow_state {s : State} {f : FlowId} (now : Nat) (p : Position) (hsound : (s.flow f).Sound) :
    let x := s.flow f
    let k := x.params.lockFrame now
    s.relockFlow f now p = { s.setFlow f (relockedRecord x k p.k) with
      legA := if x.params.legs.uses .a then { s.legA with counters := { s.legA.counters with
        lagTotal := raise s.legA.counters.lagTotal x.queueA.length } } else s.legA
      legB := if x.params.legs.uses .b then { s.legB with counters := { s.legB.counters with
        lagTotal := raise s.legB.counters.lagTotal x.queueB.length } } else s.legB
      store := (x.queueA ++ x.queueB).foldl Store.release s.store
      port := s.port.add s.stationTime (.flowLock f .relocked k) } := by
  intro x k
  have hpos := alters_modFlow s f (fun x =>
    { x.noCredit with
      lock := some (Position.atLock x.params (x.params.lockFrame now))
      counters := { x.counters with skipped := raise x.counters.skipped (x.params.lockFrame now - p.k) } })
  have hpos : Alters s (repositioned s f now p) f _ := hpos
  have hqueue (l : Leg) : ((repositioned s f now p).flow f).queue l = x.queue l := by
    rw [alters_self hpos]
    cases l <;> rfl
  have hother : (((repositioned s f now p).lagQueue f .a).flow f).queue .b = x.queue .b := by
    rw [alters_self (lagQueue_alters _ f .a), ← hqueue]
    rfl
  have hunused (l : Leg) (hl : x.params.legs.uses l = false) : x.queue l = [] := unused_queue hsound hl
  have hfold := foldl_alters (f := f) (k := fun y l => (y.setQueue l []).countOn l
    (fun c => { c with lag := raise c.lag (y.queue l).length })) (fun t l => lagQueue_alters t f l) x.params.legs.list
    (repositioned s f now p)
  rw [alters_self hpos] at hfold
  have hrecord := alters_trans hpos hfold
  have hframe : HeadFrame (repositioned s f now p)
      (x.params.legs.list.foldl (fun t l => t.lagQueue f l) (repositioned s f now p)) :=
    foldl_rel HeadFrame.refl HeadFrame.trans (fun t l => lagQueue_frame t f l) _ _
  have hstore : (x.params.legs.list.foldl (fun t l => t.lagQueue f l) (repositioned s f now p)).store =
      (x.queueA ++ x.queueB).foldl Store.release s.store := by
    cases hl : x.params.legs with
    | none =>
      have ha : x.queueA = [] := hunused .a (by rw [hl]; rfl)
      have hb : x.queueB = [] := hunused .b (by rw [hl]; rfl)
      rw [ha, hb]
      rfl
    | a =>
      have hb : x.queueB = [] := hunused .b (by rw [hl]; rfl)
      rw [hb, List.append_nil]
      simp only [Legs.list, List.foldl_cons, List.foldl_nil, lagQueue_store, hqueue]
      rfl
    | b =>
      have ha : x.queueA = [] := hunused .a (by rw [hl]; rfl)
      rw [ha, List.nil_append]
      simp only [Legs.list, List.foldl_cons, List.foldl_nil, lagQueue_store, hqueue]
      rfl
    | dual =>
      simp only [Legs.list, List.foldl_cons, List.foldl_nil, lagQueue_store, hqueue, hother, List.foldl_append]
      rfl
  have hleg (m : Leg) : (x.params.legs.list.foldl (fun t l => t.lagQueue f l) (repositioned s f now p)).leg m =
      if x.params.legs.uses m then (s.leg m).count (fun c => { c with lagTotal := raise c.lagTotal (x.queue m).length })
      else s.leg m := by
    have hrep : (repositioned s f now p).leg m = s.leg m := by cases m <;> rfl
    cases hl : x.params.legs <;> cases m <;>
      simp only [Legs.list, Legs.uses, List.foldl_cons, List.foldl_nil, lagQueue_leg, hqueue, hother, hrep, if_true,
        if_false, Bool.false_eq_true, reduceCtorEq]
  rw [relockFlow_eq]
  refine eq_of_flows (fun g => ?_) ?_
  · rw [State.flow_emit, hrecord g]
    refine Eq.trans ?_ (s.flow_setFlow f g _).symm
    congr 1
    have hx : (s.flow f) = x := rfl
    unfold relockedRecord
    cases hl : x.params.legs with
    | none =>
      have ha : x.queueA = [] := hunused .a (by rw [hl]; rfl)
      have hb : x.queueB = [] := hunused .b (by rw [hl]; rfl)
      simp [Legs.list, Legs.uses, Flow.noCredit, hx, ha, hb, Position.atLock, k]
    | a =>
      have hb : x.queueB = [] := hunused .b (by rw [hl]; rfl)
      simp [Legs.list, Legs.uses, Flow.noCredit, hx, hb, Position.atLock, k, Flow.setQueue, Flow.countOn, Flow.queue,
        FlowCounters.setLeg, FlowCounters.leg]
    | b =>
      have ha : x.queueA = [] := hunused .a (by rw [hl]; rfl)
      simp [Legs.list, Legs.uses, Flow.noCredit, hx, ha, Position.atLock, k, Flow.setQueue, Flow.countOn, Flow.queue,
        FlowCounters.setLeg, FlowCounters.leg]
    | dual =>
      simp [Legs.list, Legs.uses, Flow.noCredit, hx, Position.atLock, k, Flow.setQueue, Flow.countOn, Flow.queue,
        FlowCounters.setLeg, FlowCounters.leg]
  · have ha := hleg .a
    have hb := hleg .b
    simp only [State.leg, Flow.queue] at ha hb
    rw [hframe, hstore, ha, hb]
    rfl

theorem find_updateFirst_of_ne {i j : Nat} (h : j ≠ i) {g : Bundle → Bundle} (hg : ∀ u, (g u).id = u.id) (us : List Bundle) :
    (updateFirst (fun u => u.id == i) g us).find? (fun u => u.id == j) = us.find? (fun u => u.id == j) := by
  induction us with
  | nil => rfl
  | cons u us ih =>
    by_cases hu : u.id = i
    · simp [updateFirst, hu, hg, h.symm]
    · simp [updateFirst, hu, List.find?_cons, ih]

theorem find_eraseP_of_ne {i j : Nat} (h : j ≠ i) (us : List Bundle) :
    (us.eraseP (fun u => u.id == i)).find? (fun u => u.id == j) = us.find? (fun u => u.id == j) := by
  induction us with
  | nil => rfl
  | cons u us ih =>
    by_cases hu : u.id = i
    · simp [hu, h.symm]
    · simp [hu, List.find?_cons, ih]

/-- A unit that no release names stays as it stands. -/
theorem find_release_of_ne (st : Store) {i j : Nat} (h : j ≠ i) : (st.release i).find j = st.find j := by
  unfold Store.release
  split
  · rfl
  · split
    · exact find_eraseP_of_ne h _
    · exact find_updateFirst_of_ne h (g := fun v => { v with holders := v.holders - 1 }) (fun _ => rfl) _

theorem find_releases_of_notMem (st : Store) {ids : List Nat} {j : Nat} (h : j ∉ ids) :
    (ids.foldl Store.release st).find j = st.find j := by
  induction ids generalizing st with
  | nil => rfl
  | cons i ids ih =>
    rw [List.foldl_cons, ih _ (fun hm => h (List.mem_cons_of_mem i hm)),
      find_release_of_ne st (by rintro rfl; exact h List.mem_cons_self)]

/-- A unit that waits for the Binder stands in no leg queue. -/
theorem notMem_queues {s : State} (h : s.HoldersExact) {f : FlowId} {i : Nat} (hi : i ∈ (s.flow f).intakeQ) :
    i ∉ (s.flow f).queueA ++ (s.flow f).queueB := by
  intro hm
  have hone : s.places i = 1 := h.2.2.2 f i (List.mem_append_right _ hi)
  have hcount := count_le_places s f i
  have hwait : 0 < (s.flow f).intakeQ.count i := List.count_pos_iff.mpr hi
  have hqueued := List.count_pos_iff.mpr hm
  rw [holds_eq, List.append_assoc, List.count_append, waiting, List.count_append] at hcount
  omega

/-- A flow that may be examined still may once its leg queues are empty. -/
theorem bindable_emptied {x y : Flow} (h : x.bindable = true) (hstate : y.state = x.state) (hparams : y.params = x.params)
    (ha : y.queueA = []) (hb : y.queueB = []) : y.bindable = true := by
  rw [Flow.bindable, Bool.and_eq_true, List.any_eq_true] at h ⊢
  obtain ⟨hload, l, hl, -⟩ := h
  refine ⟨(holdsLoad_congr hstate).trans hload, l, by rw [hparams]; exact hl, ?_⟩
  cases l with
  | a => exact List.isEmpty_iff.mpr ha
  | b => exact List.isEmpty_iff.mpr hb

/-- A frame whose start is behind now lies before the lock frame. -/
theorem lt_lockFrame {x : Params} (h : x.Paced) {now k : Nat} (hk : x.frameStart k < now) : k < x.lockFrame now := by
  by_contra hle
  have hlead := (lockFrame_le_iff x now (paced_pn_pos h) (paced_pd_pos h) k).mp (Nat.not_lt.mp hle)
  omega

/-- Settles O28: the passed-over frames counted, the head is ahead of now again, and is bound. -/
theorem relockPassesOverFrames : Obligations.RelockPassesOverFrames := by
  intro f s id now rest p hreset hq hnow hb hsound hexact hp x hbehind k lagLeg
  obtain ⟨-, hderived, hpaced, hdirect⟩ := locked_sound hsound hp
  have hstart : (s.flow f).params.frameStart p.k = p.q + (s.flow f).params.o := by rw [hdirect.q]; rfl
  have hleft : exec (.binderExamination f) s = .next ((s.relockFlow f now p).placeHead f id now) := by
    rw [exec_examination_locked hreset hq hnow hb hp]
    by_cases hc : x.params.cls = .essence
    · rw [if_pos hc] at hbehind
      rw [lockedHead_essence_behind hp id now hc _ (by push_cast; exact hbehind)]
    · rw [if_neg hc] at hbehind
      obtain ⟨hfs, hj, hlate⟩ := hbehind
      rw [hfs, lockedHead_frameStart hp id now hc hj, frameHead_behind hp id now (by push_cast; exact hlate)]
  have hx : x = s.flow f := rfl
  have hwf : (0 : ℤ) ≤ (s.flow f).derived.wf := Int.natCast_nonneg _
  have hlate : (s.flow f).params.frameStart p.k < now := by
    rw [hstart]
    rw [hx] at hbehind
    split at hbehind
    · omega
    · obtain ⟨-, -, hlate⟩ := hbehind
      omega
  have hcond : (s.flow f).params.cls = .essence ∨ s.unitFrameStart id = true := by
    split at hbehind
    next hc => exact .inl hc
    · exact .inr hbehind.1
  refine ⟨lt_lockFrame hpaced hlate, ?_⟩
  have hstate := relockFlow_state now p hsound
  have hself : (s.relockFlow f now p).flow f = relockedRecord x k p.k := by
    rw [hstate]
    exact s.flow_setFlow_self f _
  have hfs : (s.relockFlow f now p).unitFrameStart id = s.unitFrameStart id := by
    have hfind := find_releases_of_notMem s.store (notMem_queues hexact (f := f) (i := id) (hq ▸ List.mem_cons_self))
    refine unitFrameStart_congr ?_
    rw [hstate]
    exact hfind
  have hlock : ((s.relockFlow f now p).flow f).lock =
      some (Position.atLock ((s.relockFlow f now p).flow f).params k) := by
    rw [hself]
    rfl
  have hahead : now + 8000 ≤ ((s.relockFlow f now p).flow f).params.frameStart k := by
    rw [hself]
    exact lead_le_lockFrame x.params now (paced_pn_pos hpaced) (paced_pd_pos hpaced)
  have hq' : ((s.relockFlow f now p).flow f).intakeQ = id :: rest := by rw [hself]; exact hq
  have hb' : ((s.relockFlow f now p).flow f).bindable = true := by
    rw [hself]
    exact bindable_emptied hb rfl rfl rfl rfl
  have hright : exec (.binderExamination f) (s.relockFlow f now p) = .next ((s.relockFlow f now p).placeHead f id now) := by
    rw [exec_examination_locked (s := s.relockFlow f now p) (by rw [hstate]; exact hreset) hq'
      (by rw [hstate]; exact hnow) hb' hlock, hfs, lockedHead_ahead id hlock hahead (by rw [hself]; exact hcond)]
  rw [hleft, ← hright]
  exact congrArg (exec (.binderExamination f)) hstate

end Sys2Proof.Proofs.Binder
end

section
/-! The flows stay sound, and the due times in their leg queues increasing: how a flow's record may change (R1-R9, R22-R25,
R42, R50-R53, R64, R67, R80, R89). -/

namespace Sys2Proof.Proofs.FlowRecords

open Sys2Proof Sys2Proof.Machine Sys2Proof.Proofs.Frames Sys2Proof.Proofs.Acts Sys2Proof.Proofs.Admission
  Sys2Proof.Proofs.Pacing Sys2Proof.Proofs.Roundings Sys2Proof.Proofs.CellStore Sys2Proof.Proofs.Binder

/-! ## Accepted parameters (R5) -/

theorem paced_of_firstFailure {p : Params} {limit : Nat} (h : p.firstFailure limit = none) : p.Paced := by
  have hnone {c : Bool} {code : DirectiveCode} {rest : Option DirectiveCode}
      (h : (if c then some code else rest) = none) : c = false ∧ rest = none := by
    cases c with
    | true => exact absurd h (Option.some_ne_none _)
    | false => exact ⟨rfl, h⟩
  unfold Params.firstFailure at h
  obtain ⟨hperiod, h⟩ := hnone h
  obtain ⟨hcount, h⟩ := hnone h
  obtain ⟨hratio, h⟩ := hnone h
  obtain ⟨hoffset, h⟩ := hnone h
  obtain ⟨-, h⟩ := hnone h
  obtain ⟨-, h⟩ := hnone h
  obtain ⟨-, h⟩ := hnone h
  obtain ⟨-, h⟩ := hnone h
  obtain ⟨hrate, -⟩ := hnone h
  simp only [Bool.not_eq_false', Bool.and_eq_true, within, decide_eq_true_eq] at hperiod hcount hratio hoffset hrate
  obtain ⟨⟨⟨hpn, -⟩, hpd, -⟩, hpint, -⟩ := hperiod
  obtain ⟨⟨⟨⟨ha, -⟩, -⟩, hat⟩, -⟩ := hratio
  exact ⟨hpn, hpd, hcount.1, ha, hat, hpint, hoffset, hrate⟩

theorem paced_of_validate {straps : Straps} {d : Declaration} {p : Params} (h : validate straps d = .inr p) : p.Paced := by
  unfold validate at h
  split at h
  · cases h
  · split at h
    · cases h
    · split at h
      · cases h
      next hchecks =>
        cases h
        exact paced_of_firstFailure hchecks

/-! ## The instant of the position (R24, R25) -/

theorem due_eq {x : Params} {p : Position} (h : Direct x p) : p.due x = x.instant p.k p.j := by
  rw [Position.due, Params.instant, Params.frameStart, Params.offset, h.q, h.off]

theorem due_lt_nextFrame {x : Params} (h : x.Paced) {p : Position} (hp : Direct x p) :
    p.due x < (p.nextFrame x x.derive).due x := by
  have hk : (p.nextFrame x x.derive).k = p.k + 1 := by rw [nextFrame_eq (paced_pd_pos h) hp.q hp.r]
  have hdist := instants_apart h (k := p.k) (k' := p.k + 1) (j' := (p.nextFrame x x.derive).j) hp.below (.inl (by omega))
  rw [due_eq hp, due_eq (direct_nextFrame h hp), hk]
  omega

theorem due_lt_advance {x : Params} (h : x.Paced) {p : Position} (hp : Direct x p) :
    p.due x < (p.advance x x.derive).due x := by
  by_cases hj : p.j + 1 < x.n
  · have hnext := nextIndex_eq (paced_sd_pos h) hp.off hp.rem
    have hadvance : p.advance x x.derive = p.nextIndex x.derive := if_pos hj
    have hdist := instant_succ_ge h p.k p.j
    have hdue := due_eq (direct_advance h hp)
    rw [due_eq hp, hdue, hadvance, hnext]
    exact lt_of_lt_of_le (Nat.lt_add_of_pos_right (by decide)) hdist
  · have hadvance : p.advance x x.derive = p.nextFrame x x.derive := if_neg hj
    rw [hadvance]
    exact due_lt_nextFrame h hp

/-! ## Changes that append nothing to a leg queue -/

/-- A flow's record changed so that it stays sound, its leg queues lose units only, and where units stay bound the
instant of the position does not go back. -/
structure Tamed (x y : Flow) : Prop where
  sound : y.Sound
  queue : ∀ l, (y.queue l).Sublist (x.queue l)
  instant : ∀ l, y.queue l ≠ [] → ∀ q, y.lock = some q → ∃ p, x.lock = some p ∧ p.due x.params ≤ q.due y.params

/-- The same of a sound record. -/
def Tame (x y : Flow) : Prop := x.Sound → Tamed x y

theorem Tame.refl (x : Flow) : Tame x x := fun h => ⟨h, fun _ => List.Sublist.refl _, fun _ _ p hp => ⟨p, hp, le_rfl⟩⟩

theorem Tame.trans {x y z : Flow} (h : Tame x y) (k : Tame y z) : Tame x z := by
  intro hx
  obtain ⟨hy, hq, hi⟩ := h hx
  obtain ⟨hz, kq, ki⟩ := k hy
  refine ⟨hz, fun l => (kq l).trans (hq l), fun l hl r hr => ?_⟩
  obtain ⟨q, hlock, hle⟩ := ki l hl r hr
  have hy : y.queue l ≠ [] := fun he => hl (List.eq_nil_of_sublist_nil (he ▸ kq l))
  obtain ⟨p, hp, hle'⟩ := hi l hy q hlock
  exact ⟨p, hp, hle'.trans hle⟩

/-- The counters, the cancel mark and the drain timer are free. -/
theorem tame_counters (x : Flow) (c : FlowCounters) (cancel : Bool) (drain : Option Nat) :
    Tame x { x with counters := c, cancel := cancel, drain := drain } := fun h =>
  ⟨⟨h.declared, h.intake, h.slot, h.intakeQ, h.running, h.unlocked, h.locked, h.credits, h.queues⟩,
    fun _ => List.Sublist.refl _, fun _ _ p hp => ⟨p, hp, le_rfl⟩⟩

theorem tame_count (x : Flow) (g : FlowCounters → FlowCounters) : Tame x (x.count g) :=
  tame_counters x (g x.counters) x.cancel x.drain

theorem tame_countOn (x : Flow) (l : Leg) (g : LegCounts → LegCounts) : Tame x (x.countOn l g) :=
  tame_counters x _ x.cancel x.drain

/-- Intake changes the slot, the intake queue and the counters of a flow that holds load. -/
theorem tame_intake (x : Flow) (slot : Slot) (q : List Nat) (c : FlowCounters) (hload : x.holdsLoad = true)
    (hslot : x.accepts = true ∨ slot = .empty ∨ slot = x.slot)
    (hcap : q.length + slot.units.length ≤ max x.params.qmax (x.intakeQ.length + x.slot.units.length)) :
    Tame x { x with slot := slot, intakeQ := q, counters := c } := fun h =>
  ⟨{ declared := h.declared
     intake := hcap.trans (max_le le_rfl h.intake)
     slot := fun harmed hrunning => by
       have haccepts : x.accepts ≠ true := by
          simp [Flow.accepts, show x.state ≠ .armed from harmed, show x.state ≠ .running from hrunning]
       rcases hslot.resolve_left haccepts with e | e
       · exact e
       · exact e.trans (h.slot harmed hrunning)
     intakeQ := fun hst => by
       obtain ⟨h1, h2, h3⟩ := holdsLoad_state hload
       rcases hst with e | e | e
       · exact absurd e h1
       · exact absurd e h2
       · exact absurd e h3
     running := h.running
     unlocked := h.unlocked
     locked := h.locked
     credits := h.credits
     queues := h.queues },
    fun _ => List.Sublist.refl _, fun _ _ p hp => ⟨p, hp, le_rfl⟩⟩

/-- A flow that holds load begins to drain. -/
theorem tame_draining (x : Flow) (c : FlowCounters) (drain : Option Nat) (hload : x.holdsLoad = true) :
    Tame x { x with counters := c, state := .draining, slot := .empty, drain := drain } := fun h =>
  ⟨{ declared := fun _ => h.declared (holdsLoad_state hload).1
     intake := le_trans (Nat.add_le_add_left (Nat.zero_le _) _) h.intake
     slot := fun _ _ => rfl
     intakeQ := fun hst => by rcases hst with e | e | e <;> exact FlowState.noConfusion e
     running := fun e => FlowState.noConfusion e
     unlocked := h.unlocked
     locked := fun p hp => ⟨.inr rfl, (h.locked p hp).2⟩
     credits := h.credits
     queues := h.queues },
    fun _ => List.Sublist.refl _, fun _ _ p hp => ⟨p, hp, le_rfl⟩⟩

/-- A flow's slot and queues emptied. -/
theorem tame_emptied (x : Flow) (c : FlowCounters) :
    Tame x { x with counters := c, slot := .empty, intakeQ := [], queueA := [], queueB := [] } := fun h => by
  have hqueue (l : Leg) : Flow.queue { x with counters := c, slot := .empty, intakeQ := [], queueA := [], queueB := [] } l = [] := by
    cases l <;> rfl
  refine ⟨⟨h.declared, Nat.zero_le _, fun _ _ => rfl, fun _ => rfl, h.running, fun hl l => ⟨hqueue l, ?_⟩, h.locked, ?_,
    fun l => ?_⟩, fun l => ?_, fun l hl => absurd (hqueue l) hl⟩
  · exact (h.unlocked hl l).2
  · exact h.credits
  · rw [hqueue]
    exact Nat.zero_le _
  · rw [hqueue]
    exact List.nil_sublist _

/-- Credits changed, and a leg queue shortened, of a LOCKED flow. -/
theorem tame_served (x y : Flow) (hy : y = { x with
      queueA := y.queueA, queueB := y.queueB, creditA := y.creditA, creditB := y.creditB, counters := y.counters })
    (hlock : x.lock ≠ none) (hqueue : ∀ l, (y.queue l).Sublist (x.queue l))
    (hcredit : x.Sound → ∀ l, y.credit l ≤ x.params.bmax) :
    Tame x y := fun h => by
  rw [hy] at hqueue hcredit ⊢
  exact ⟨{ declared := h.declared
           intake := h.intake
           slot := h.slot
           intakeQ := h.intakeQ
           running := h.running
           unlocked := fun he => absurd he hlock
           locked := h.locked
           credits := hcredit h
           queues := fun l => (hqueue l).length_le.trans (h.queues l) },
    hqueue, fun _ _ p hp => ⟨p, hp, le_rfl⟩⟩

/-- A step (R67, R77). -/
theorem tame_stepped (x : Flow) : Tame x x.stepped := fun h => by
  unfold Flow.stepped
  split
  next hlock =>
    have hcredit (l : Leg) : x.noCredit.credit l = 0 := by cases l <;> rfl
    have hqueue (l : Leg) : x.noCredit.queue l = x.queue l := by cases l <;> rfl
    refine ⟨⟨h.declared, h.intake, h.slot, h.intakeQ, h.running, fun _ l => ?_, h.locked, fun l => ?_, fun l => ?_⟩,
      fun l => ?_, fun l _ p hp => ⟨p, hp, le_rfl⟩⟩
    · exact ⟨(hqueue l).trans (h.unlocked hlock l).1, hcredit l⟩
    · rw [hcredit]; exact Nat.zero_le _
    · rw [hqueue]; exact h.queues l
    · rw [hqueue]
  next p hlock =>
    obtain ⟨hst, hd, hpaced, -⟩ := locked_sound h hlock
    have hnew : (if x.state = .running then FlowState.armed else x.state) = .armed ∨
        (if x.state = .running then FlowState.armed else x.state) = .draining := by
      obtain e | e := hst <;> simp [e]
    refine ⟨⟨fun _ => ⟨hd, hpaced⟩, h.intake, fun harmed _ => ?_, fun hidle => ?_, fun hrun => ?_, fun _ l => ?_,
      fun q hq => ?_, fun l => ?_, fun l => ?_⟩, fun l => ?_, fun l hl => ?_⟩
    · refine h.slot (fun e => harmed ?_) (fun e => harmed ?_)
      · simp [e]
      · simp [e]
    · rcases hnew with e | e <;> rcases hidle with e' | e' | e' <;> exact absurd (e.symm.trans e') (by decide)
    · rcases hnew with e | e <;> exact absurd (e.symm.trans hrun) (by decide)
    · cases l <;> exact ⟨rfl, rfl⟩
    · cases hq
    · cases l <;> exact Nat.zero_le _
    · cases l <;> exact Nat.zero_le _
    · cases l <;> exact List.nil_sublist _
    · cases l <;> exact absurd rfl hl

/-- The position moved forward (R59, R65). -/
theorem tame_moved (x : Flow) (c : FlowCounters) (q : List Nat) {p r : Position} (hp : x.lock = some p)
    (hq : q.length ≤ x.intakeQ.length) (hr : x.Sound → Direct x.params r ∧ p.due x.params ≤ r.due x.params) :
    Tame x { x with counters := c, intakeQ := q, lock := some r } := fun h => by
  obtain ⟨hst, hd, hpaced, -⟩ := locked_sound h hp
  obtain ⟨hdirect, hle⟩ := hr h
  refine ⟨⟨h.declared, le_trans (Nat.add_le_add_right hq _) h.intake, h.slot, fun hidle => ?_, fun _ => Option.some_ne_none _,
    fun he => absurd he (Option.some_ne_none _), fun q' hq' => ?_, h.credits, h.queues⟩, fun _ => List.Sublist.refl _,
    fun _ _ q' hq' => ?_⟩
  · rw [h.intakeQ hidle] at hq
    exact List.length_eq_zero_iff.mp (Nat.le_zero.mp hq)
  · cases hq'
    exact ⟨hst, hdirect.q, hdirect.r, hdirect.off, hdirect.rem, hdirect.below⟩
  · cases hq'
    exact ⟨p, hp, hle⟩

/-- A lock or a re-lock: the position at a frame's start, no credit, and no unit bound (R56, R61, R62). -/
theorem tame_placed (x y : Flow) (k : Nat) (hload : x.holdsLoad = true) (hy : x.Sound → y = { x with
      lock := some (Position.atLock x.params k), creditA := 0, creditB := 0, queueA := [], queueB := [], state := y.state,
      counters := y.counters })
    (hst : x.Sound → y.state = .running ∨ y.state = .draining)
    (hslot : x.Sound → x.state = .armed ∨ x.state = .running → y.state = .running) :
    Tame x y := fun h => by
  obtain ⟨hd, hpaced⟩ := h.declared (holdsLoad_state hload).1
  have hdirect := direct_atLock hpaced k
  have hstate := hst h
  rw [hy h]
  refine ⟨⟨fun _ => ⟨hd, hpaced⟩, h.intake, fun _ hrun => ?_, fun hidle => ?_, fun _ => Option.some_ne_none _,
    fun he => absurd he (Option.some_ne_none _), fun q' hq' => ?_, fun l => ?_, fun l => ?_⟩, fun l => ?_, fun l hl => ?_⟩
  · exact h.slot (fun e => hrun (hslot h (.inl e))) (fun e => hrun (hslot h (.inr e)))
  · rcases hstate with e | e <;> rcases hidle with e' | e' | e' <;> exact absurd (e.symm.trans e') (by decide)
  · cases hq'
    exact ⟨hstate, hdirect.q, hdirect.r, hdirect.off, hdirect.rem, hdirect.below⟩
  · cases l <;> exact Nat.zero_le _
  · cases l <;> exact Nat.zero_le _
  · cases l <;> exact List.nil_sublist _
  · cases l <;> exact absurd rfl hl

/-! ## Flows without resources -/

/-- A flow that is FREE, CLAIM_WAIT or CLAIMING has nothing in its slot and its queues, is UNLOCKED and has no credit. -/
structure Bare (x : Flow) : Prop where
  slot : x.slot = .empty
  intakeQ : x.intakeQ = []
  queue : ∀ l, x.queue l = []
  lock : x.lock = none
  credit : ∀ l, x.credit l = 0

theorem bare_of_sound {x : Flow} (h : x.Sound) (hst : x.state = .free ∨ x.state = .claimWait ∨ x.state = .claiming) :
    Bare x := by
  have hlock : x.lock = none := by
    cases hp : x.lock with
    | none => rfl
    | some p =>
      obtain ⟨hrun, -⟩ := h.locked p hp
      rcases hrun with e | e <;> rcases hst with e' | e' | e' <;> exact absurd (e.symm.trans e') (by decide)
  refine ⟨h.slot ?_ ?_, h.intakeQ hst, fun l => (h.unlocked hlock l).1, hlock, fun l => (h.unlocked hlock l).2⟩
  · intro e
    rcases hst with e' | e' | e' <;> exact absurd (e.symm.trans e') (by decide)
  · intro e
    rcases hst with e' | e' | e' <;> exact absurd (e.symm.trans e') (by decide)

theorem sound_of_bare {x : Flow} (h : Bare x) (hrun : x.state ≠ .running)
    (hd : x.state ≠ .free → x.derived = x.params.derive ∧ x.params.Paced) : x.Sound where
  declared := hd
  intake := by rw [h.intakeQ, h.slot]; exact Nat.zero_le _
  slot _ _ := h.slot
  intakeQ _ := h.intakeQ
  running e := absurd e hrun
  unlocked _ l := ⟨h.queue l, h.credit l⟩
  locked p hp := absurd (h.lock.symm.trans hp) (Option.some_ne_none p).symm
  credits l := by rw [h.credit]; exact Nat.zero_le _
  queues l := by rw [h.queue]; exact Nat.zero_le _

theorem tamed_of_bare {x y : Flow} (hy : Bare y) (hrun : y.state ≠ .running)
    (hd : y.state ≠ .free → y.derived = y.params.derive ∧ y.params.Paced) : Tamed x y where
  sound := sound_of_bare hy hrun hd
  queue l := by rw [hy.queue]; exact List.nil_sublist _
  instant l hl := absurd (hy.queue l) hl

theorem bare_freed {x : Flow} (hslot : x.slot = .empty) (hq : x.intakeQ = []) (hqueue : ∀ l, x.queue l = []) : Bare x.freed where
  slot := hslot
  intakeQ := hq
  queue l := by rw [← hqueue l]; cases l <;> rfl
  lock := rfl
  credit l := by cases l <;> rfl

/-- The passage to FREE of a flow that holds nothing (R9). -/
theorem tame_freed {x : Flow} (h : x.Sound → x.slot = .empty ∧ x.intakeQ = [] ∧ ∀ l, x.queue l = []) :
    Tame x x.freed := fun hx => by
  obtain ⟨hslot, hq, hqueue⟩ := h hx
  exact tamed_of_bare (bare_freed hslot hq hqueue) (by simp [Flow.freed]) (fun hne => absurd rfl hne)

/-- The changes of an undecided flow's record (R6, R7, R15, R148). -/
theorem tame_undecided (x y : Flow) (hst : x.state = .free ∨ x.state = .claimWait ∨ x.state = .claiming)
    (hslot : y.slot = x.slot) (hq : y.intakeQ = x.intakeQ) (hqueue : ∀ l, y.queue l = x.queue l)
    (hlock : y.lock = x.lock) (hcredit : ∀ l, y.credit l = x.credit l)
    (hrun : y.state ≠ .running)
    (hd : x.Sound → y.state ≠ .free → y.derived = y.params.derive ∧ y.params.Paced) : Tame x y := fun hx => by
  have hbare := bare_of_sound hx hst
  exact tamed_of_bare ⟨hslot.trans hbare.slot, hq.trans hbare.intakeQ, fun l => (hqueue l).trans (hbare.queue l),
    hlock.trans hbare.lock, fun l => (hcredit l).trans (hbare.credit l)⟩ hrun (hd hx)

theorem tame_freed_undecided {x : Flow} (hst : x.state = .free ∨ x.state = .claimWait ∨ x.state = .claiming) :
    Tame x x.freed :=
  tame_freed fun hx => ⟨(bare_of_sound hx hst).slot, (bare_of_sound hx hst).intakeQ, (bare_of_sound hx hst).queue⟩

/-! ## Moves of admission -/

theorem tame_of_alters {s t : State} {f : FlowId} {y : Flow} (h : Alters s t f y) (hy : Tame (s.flow f) y) (g : FlowId) :
    Tame (s.flow g) (t.flow g) := by
  rw [h g]
  split
  next hg => rw [hg]; exact hy
  · exact Tame.refl _

theorem tame_of_move {s t : State} (h : Move s t) (hs : s.ClaimsConsistent) (g : FlowId) : Tame (s.flow g) (t.flow g) := by
  obtain ⟨-, hqueue, hclaiming, -, -⟩ := hs
  cases h.moved with
  | still _ _ hflow => rw [hflow]; exact Tame.refl _
  | station _ hflow => rw [hflow]; exact Tame.refl _
  | placed f rest timer _ _ hq _ hflow =>
    have hst : (s.flow f).state = .claimWait := (hqueue f).mp (by rw [hq]; exact List.mem_cons_self)
    exact tame_of_alters hflow (tame_undecided _ _ (.inr (.inl hst)) rfl rfl (fun l => by cases l <;> rfl) rfl
      (fun l => by cases l <;> rfl) (fun e => FlowState.noConfusion e) fun hx _ => hx.declared (by rw [hst]; decide)) g
  | ended f hf _ hflow => exact tame_of_alters hflow (tame_freed_undecided (.inr (.inr ((hclaiming f).mp hf)))) g
  | admitted f hf _ _ hflow =>
    have hst := (hclaiming f).mp hf
    exact tame_of_alters hflow (tame_undecided _ _ (.inr (.inr hst)) rfl rfl (fun l => by cases l <;> rfl) rfl
      (fun l => by cases l <;> rfl) (fun e => FlowState.noConfusion e) fun hx _ => hx.declared (by rw [hst]; decide)) g
  | dequeued f hf _ _ hflow => exact tame_of_alters hflow (tame_freed_undecided (.inr (.inl hf))) g
  | marked f _ _ _ hflow => exact tame_of_alters hflow (tame_counters _ _ true _) g
  | declared f d p hp hf _ _ hflow =>
    exact tame_of_alters hflow (tame_undecided _ _ (.inl hf) rfl rfl (fun l => by cases l <;> rfl) rfl
      (fun l => by cases l <;> rfl) (by simp [Flow.declared]) fun _ _ => ⟨rfl, paced_of_validate hp⟩) g
  | armed f d p hp hf _ _ _ hflow =>
    exact tame_of_alters hflow (tame_undecided _ _ (.inl hf) rfl rfl (fun l => by cases l <;> rfl) rfl
      (fun l => by cases l <;> rfl) (by simp) fun _ _ => ⟨rfl, paced_of_validate hp⟩) g
  | refused f d p hp hf _ _ hflow =>
    refine tame_of_alters hflow (Tame.trans (y := (s.flow f).declared p) ?_ (tame_freed_undecided (.inr (.inl rfl)))) g
    exact tame_undecided _ _ (.inl hf) rfl rfl (fun l => by cases l <;> rfl) rfl
      (fun l => by cases l <;> rfl) (by simp [Flow.declared]) fun _ _ => ⟨rfl, paced_of_validate hp⟩
  | cleared _ hflow =>
    rw [hflow]
    split
    next hmem =>
      refine tame_freed_undecided (.inr ?_)
      exact hmem.imp (hqueue g).mp (hclaiming g).mp
    · exact Tame.refl _

theorem tame_of_moves {s t : State} (h : Moves s t) (hs : s.ClaimsConsistent) (g : FlowId) : Tame (s.flow g) (t.flow g) := by
  induction h with
  | refl => exact Tame.refl _
  | tail hmoves hmove ih => exact ih.trans (tame_of_move hmove (claims_of_moves hmoves hs) g)

end Sys2Proof.Proofs.FlowRecords
end

section
/-! The flows stay sound, and the due times increasing, under every act. -/

namespace Sys2Proof.Proofs.FlowRecords

open Sys2Proof Sys2Proof.Machine Sys2Proof.Proofs.Frames Sys2Proof.Proofs.Acts Sys2Proof.Proofs.Admission
  Sys2Proof.Proofs.Pacing Sys2Proof.Proofs.Roundings Sys2Proof.Proofs.CellStore Sys2Proof.Proofs.Binder

/-! ## Every flow's change at once -/

/-- Every flow's record is changed in the tame way. -/
def TameAll (s t : State) : Prop := ∀ g, Tame (s.flow g) (t.flow g)

theorem TameAll.refl (s : State) : TameAll s s := fun _ => Tame.refl _

theorem TameAll.trans {s t u : State} (h : TameAll s t) (k : TameAll t u) : TameAll s u := fun g => (h g).trans (k g)

theorem foldl_tame {α : Type} {turn : State → α → State} (h : ∀ s a, TameAll s (turn s a)) (as : List α) (s : State) :
    TameAll s (as.foldl turn s) := foldl_rel TameAll.refl TameAll.trans h as s

section
variable {s t : State}

theorem tameAll_of_flows (h : ∀ g, t.flow g = s.flow g) : TameAll s t := fun g => by
  rw [h]
  exact Tame.refl _

theorem tameAll_of_alters {f : FlowId} {y : Flow} (h : Alters s t f y) (hy : Tame (s.flow f) y) : TameAll s t :=
  tame_of_alters h hy

theorem modFlow_tame (f : FlowId) {k : Flow → Flow} (h : Tame (s.flow f) (k (s.flow f))) : TameAll s (s.modFlow f k) :=
  tameAll_of_alters (alters_modFlow s f k) h

theorem modLeg_tame (l : Leg) (g : EgressLeg → EgressLeg) : TameAll s (s.modLeg l g) :=
  tameAll_of_flows fun f => by rw [State.modLeg, State.flow_setLeg]

theorem modLegSettled_tame (l : Leg) (g : EgressLeg → EgressLeg) : TameAll s (s.modLegSettled l g) := modLeg_tame l _

theorem emit_tame (o : Outcome) : TameAll s (s.emit o) := tameAll_of_flows fun f => s.flow_emit o f

theorem setTime_tame (x : TimeState) : TameAll s { s with time := x } := tameAll_of_flows fun _ => rfl

theorem releaseAll_tame (ids : List Nat) : TameAll s (s.releaseAll ids) :=
  tameAll_of_flows fun f => by rw [State.flow_releaseAll]

theorem tame_of_accepts {x : Flow} (h : x.accepts = true) : x.holdsLoad = true := by rw [Flow.holdsLoad, h, Bool.true_or]

/-! ## Intake -/

theorem breakRun_tame (f : FlowId) (h : (s.flow f).holdsLoad = true) : TameAll s (s.breakRun f) := by
  unfold State.breakRun
  split
  · refine TameAll.trans (modFlow_tame f ?_) (releaseAll_tame [_])
    exact tame_intake _ .empty _ _ h (.inr (.inl rfl)) (le_max_of_le_right (Nat.add_le_add_left (Nat.zero_le _) _))
  · refine modFlow_tame f ?_
    exact tame_intake _ .empty _ (s.flow f).counters h (.inr (.inl rfl))
      (le_max_of_le_right (Nat.add_le_add_left (Nat.zero_le _) _))
  · exact TameAll.refl s

theorem slot_units_length (x : Flow) : x.intakeQ.length + x.slot.units.length = x.intakeCount := by
  unfold Flow.intakeCount
  cases x.slot <;> rfl

theorem capAllows_iff (x : Flow) : x.capAllows = true ↔ x.intakeQ.length + x.slot.units.length + 1 ≤ x.params.qmax := by
  rw [Flow.capAllows, decide_eq_true_eq, slot_units_length]

/-- A unit begun changes the flow as stated. -/
theorem startUnit_tame (f : FlowId) (p : Packet) {g : Flow → Nat → Flow}
    (h : Tame (s.flow f) (g (s.flow f) s.store.nextId)) : TameAll s (s.startUnit f p g) :=
  tameAll_of_alters (alters_modFlow { s with store := s.store.start f p.frameStart p.bytes } f
    (fun x => g x s.store.nextId)) h

theorem joined_unit_tame {x : Flow} (id : Nat) (hacc : x.accepts = true) (hcap : x.capAllows = true) :
    Tame x { x with intakeQ := x.intakeQ ++ [id] } := by
  rw [capAllows_iff] at hcap
  refine tame_intake x x.slot _ x.counters (tame_of_accepts hacc) (.inl hacc) (le_max_of_le_left ?_)
  rw [List.length_append, List.length_singleton]
  omega

theorem overIntake_tame {x : Flow} (slot : Slot) (hacc : x.accepts = true) (hslot : slot.units = []) :
    Tame x { x.overIntake with slot := slot } := by
  refine tame_intake x slot x.intakeQ _ (tame_of_accepts hacc) (.inl hacc) (le_max_of_le_right ?_)
  rw [hslot]
  exact Nat.add_le_add_left (Nat.zero_le _) _

theorem singleUnit_tame (f : FlowId) (p : Packet) (hacc : (s.flow f).accepts = true) : TameAll s (s.singleUnit f p) := by
  unfold State.singleUnit
  split
  next hcap => exact startUnit_tame f p (joined_unit_tame _ hacc hcap)
  · exact modFlow_tame f (tame_count _ _)

theorem openRun_tame (f : FlowId) (p : Packet) (closes : Bool) (hacc : (s.flow f).accepts = true)
    (hslot : (s.flow f).slot = .empty) : TameAll s (s.openRun f p closes) := by
  unfold State.openRun
  split
  next hcap =>
    refine startUnit_tame f p ?_
    split
    · exact joined_unit_tame _ hacc hcap
    · rw [capAllows_iff, hslot] at hcap
      exact tame_intake _ (.opened _) _ (s.flow f).counters (tame_of_accepts hacc) (.inl hacc) (le_max_of_le_left hcap)
  · refine modFlow_tame f (overIntake_tame _ hacc ?_)
    split <;> rfl

theorem joinRun_tame (f : FlowId) (p : Packet) (closes : Bool) (id : Nat) (hacc : (s.flow f).accepts = true)
    (hslot : (s.flow f).slot = .opened id) : TameAll s (s.joinRun f p closes id) := by
  unfold State.joinRun
  split
  · simp only
    split
    · refine TameAll.trans (t := { s with store := s.store.join id p.bytes }) (tameAll_of_flows fun _ => rfl)
        (modFlow_tame f ?_)
      refine tame_intake (s.flow f) .empty _ (s.flow f).counters (tame_of_accepts hacc) (.inr (.inl rfl)) (le_max_of_le_right ?_)
      rw [hslot, List.length_append]
      exact le_rfl
    · exact tameAll_of_flows fun _ => rfl
  · exact breakRun_tame f (tame_of_accepts hacc)

theorem refusedPacket_tame (f : FlowId) (closes : Bool) (n : Nat) (hacc : (s.flow f).accepts = true) :
    TameAll s (s.refusedPacket f closes n) := by
  refine modFlow_tame f (overIntake_tame _ hacc ?_)
  split <;> rfl

theorem breakRun_accepts (f : FlowId) : ((s.breakRun f).flow f).accepts = (s.flow f).accepts := by
  unfold State.breakRun
  split
  · simp [State.modFlow, Flow.count, Flow.accepts]
  · simp [State.modFlow, Flow.accepts]
  · rfl

theorem breakRun_slot (f : FlowId) : ((s.breakRun f).flow f).slot = .empty := by
  unfold State.breakRun
  split
  · simp [State.modFlow]
  · simp [State.modFlow]
  next h => exact h

theorem acceptPacket_tame (f : FlowId) (p : Packet) (hacc : (s.flow f).accepts = true) : TameAll s (s.acceptPacket f p) := by
  unfold State.acceptPacket
  simp only
  split
  · exact TameAll.trans (breakRun_tame f (tame_of_accepts hacc))
      (openRun_tame f p _ (by rw [breakRun_accepts]; exact hacc) (breakRun_slot f))
  · split
    · exact singleUnit_tame f p hacc
    next hslot => exact joinRun_tame f p _ _ hacc hslot
    · exact refusedPacket_tame f _ _ hacc

theorem judgePacket_tame (flow : Byte) (p : Packet) : TameAll s (s.judgePacket flow p) := by
  unfold State.judgePacket
  split
  · exact tameAll_of_flows fun _ => rfl
  · split
    · exact tameAll_of_flows fun _ => rfl
    next f _ =>
      split_ifs with hacc
      · exact tameAll_of_flows fun _ => rfl
      · rw [Bool.not_eq_true', Bool.not_eq_false] at hacc
        exact (breakRun_tame f (tame_of_accepts hacc)).trans (modFlow_tame f (tame_count _ _))
      · rw [Bool.not_eq_true', Bool.not_eq_false] at hacc
        exact acceptPacket_tame f p hacc

/-! ## The ends of a flow -/

theorem startDrain_tame (f : FlowId) (h : (s.flow f).accepts = true) : TameAll s (s.startDrain f) := by
  refine TameAll.trans (modFlow_tame f ?_) (releaseAll_tame _)
  exact tame_draining _ _ _ (tame_of_accepts h)

theorem flushFlow_tame (f : FlowId) : TameAll s (s.flushFlow f) := by
  refine TameAll.trans (modFlow_tame f ?_) (releaseAll_tame _)
  exact tame_emptied _ _

theorem flowToFree_tame (f : FlowId) (reason : ClosedReason) 
    (hdrained : (s.flow f).drained = true) (hslot : (s.flow f).slot = .empty ∨ (s.flow f).state = .draining) :
    TameAll s (s.flowToFree f reason) := by
  refine tameAll_of_alters (flow_flowToFree s f reason) (tame_freed fun h => ?_)
  simp only [Flow.drained, Bool.and_eq_true, List.isEmpty_iff] at hdrained
  obtain ⟨⟨⟨hq, ha⟩, hb⟩, -⟩ := hdrained
  refine ⟨hslot.elim id fun e => h.slot ?_ ?_, hq, fun l => ?_⟩
  · rw [e]; decide
  · rw [e]; decide
  · cases l with
    | a => exact ha
    | b => exact hb

/-! ## The time port -/

theorem stepFlow_tame (s : State) (f : FlowId) : TameAll s (s.stepFlow f) :=
  TameAll.trans (modFlow_tame f (tame_stepped _)) (releaseAll_tame _)

theorem timeStep_tame (x : Nat) (code : TimeCode) : TameAll s (s.timeStep x code) := by
  unfold State.timeStep
  exact ((setTime_tame _).trans (foldl_tame stepFlow_tame allFlows _)).trans (emit_tame _)

/-- The credit of a flow on a leg after a cursor move (R75, R80). -/
theorem credited_credit {x : Flow} {p : Position} (hp : x.lock = some p) (hst : x.state = .running ∨ x.state = .draining)
    (lo hi : Nat) : x.credited lo hi = { x with
      creditA := if x.params.legs.uses .a then min x.params.bmax (x.creditA + x.params.creditSlots p.lockFrame lo hi) else x.creditA
      creditB := if x.params.legs.uses .b then min x.params.bmax (x.creditB + x.params.creditSlots p.lockFrame lo hi) else x.creditB } := by
  unfold Flow.credited
  rw [hp]
  simp only
  rw [if_pos hst]
  cases hl : x.params.legs <;> simp [Legs.list, Legs.uses, Flow.setCredit, Flow.credit, ← hp]

theorem tame_credited (x : Flow) (lo hi : Nat) : Tame x (x.credited lo hi) := fun h => by
  cases hp : x.lock with
  | none =>
    have : x.credited lo hi = x := by rw [Flow.credited, hp]
    rw [this]
    exact Tame.refl x h
  | some p =>
    obtain ⟨hst, -⟩ := locked_sound h hp
    have hcredited := credited_credit hp hst lo hi
    refine tame_served x (x.credited lo hi) ?_ (by rw [hp]; exact Option.some_ne_none p) (fun l => ?_) (fun h l => ?_) h
    · rw [hcredited]
    · rw [hcredited]
      cases l <;> exact List.Sublist.refl _
    · have ha : x.creditA ≤ x.params.bmax := h.credits .a
      have hb : x.creditB ≤ x.params.bmax := h.credits .b
      rw [hcredited]
      cases l with
      | a => simp only [Flow.credit]; split <;> omega
      | b => simp only [Flow.credit]; split <;> omega

theorem validReading_tame (x : Nat) : TameAll s (s.validReading x) := by
  unfold State.validReading
  split
  · split
    · exact timeStep_tame x _
    · unfold State.judgeReading
      split_ifs
      · exact timeStep_tame x _
      · exact setTime_tame _
      · exact timeStep_tame x _
      · exact setTime_tame _
      · exact (foldl_tame (fun t f => modFlow_tame f (tame_credited _ _ _)) _ s).trans (setTime_tame _)
  · exact setTime_tame _

theorem clockTick_tame : TameAll s s.clockTick := tameAll_of_flows fun _ => rfl

/-! ## The legs -/

section
variable {l : Leg} {e : Entry} {rest : List Nat} (hq : (s.flow e.flow).queue l = e.unit :: rest)
include hq

/-- The oldest unit of a leg queue leaves it, with its credit or without. -/
theorem tame_dropped (c : Nat) (hc : (s.flow e.flow).Sound → c ≤ (s.flow e.flow).params.bmax) :
    Tame (s.flow e.flow) (((s.flow e.flow).dropOldest l).setCredit l c) := by
  intro h
  have hlock : (s.flow e.flow).lock ≠ none := fun hn => by
    rw [(h.unlocked hn l).1] at hq
    cases hq
  refine tame_served _ _ (by cases l <;> rfl) hlock (fun m => ?_) (fun h m => ?_) h
  · cases l <;> cases m
    · exact List.tail_sublist _
    · exact List.Sublist.refl _
    · exact List.Sublist.refl _
    · exact List.tail_sublist _
  · have hm := h.credits m
    cases l <;> cases m
    · exact hc h
    · exact hm
    · exact hm
    · exact hc h

theorem takeOldest_tame : Tame (s.flow e.flow) ((s.flow e.flow).takeOldest l) :=
  tame_dropped hq _ fun h => (Nat.sub_le _ _).trans (h.credits l)

theorem dropOldest_tame : Tame (s.flow e.flow) ((s.flow e.flow).dropOldest l) := by
  have h := tame_dropped hq ((s.flow e.flow).credit l) fun h => h.credits l
  have he : ((s.flow e.flow).dropOldest l).setCredit l ((s.flow e.flow).credit l) = (s.flow e.flow).dropOldest l := by
    cases l <;> rfl
  rwa [he] at h

theorem serve_tame (now : Nat) : TameAll s (s.serve l e now) := by
  have hsink : TameAll s (s.sinkUnit l e) := by
    refine TameAll.trans (TameAll.trans (modFlow_tame e.flow ?_) (releaseAll_tame [e.unit])) (modLegSettled_tame l _)
    exact (takeOldest_tame hq).trans (tame_countOn _ l _)
  unfold State.serve
  split
  · refine TameAll.trans (TameAll.trans ?_ (releaseAll_tame [e.unit])) (modLegSettled_tame l _)
    refine TameAll.trans (modFlow_tame e.flow (k := fun x => x.dropOldest l) (dropOldest_tame hq)) ?_
    exact TameAll.trans (modFlow_tame e.flow (tame_countOn _ l _)) (modLeg_tame l _)
  · split
    · exact TameAll.trans (modFlow_tame e.flow (takeOldest_tame hq)) (modLegSettled_tame l _)
    · exact hsink
    · exact hsink
    · exact TameAll.refl s

end

theorem countFor_tame (h : Hand) (u : Bundle) (l : Leg) (g : LegCounts → LegCounts) : TameAll s (s.countFor h u l g) := by
  unfold State.countFor
  split
  · exact TameAll.refl s
  · exact modFlow_tame u.flow (tame_countOn _ l g)

theorem finishUnit_tame (l : Leg) (id : Nat) : TameAll s (s.finishUnit l id) :=
  TameAll.trans (releaseAll_tame [id]) (modLegSettled_tame l _)

theorem endUnit_tame (l : Leg) (h : Hand) (u : Bundle) : TameAll s (s.endUnit l h u) :=
  ((countFor_tame h u l _).trans (modLeg_tame l _)).trans (finishUnit_tame l h.unit)

theorem takePacket_tame (l : Leg) (h : Hand) (u : Bundle) : TameAll s (s.takePacket l h u) := by
  unfold State.takePacket
  simp only
  split
  · exact (modLeg_tame l _).trans (modLeg_tame l _)
  · exact (((modLeg_tame l _).trans (countFor_tame h u l _)).trans (modLeg_tame l _)).trans (finishUnit_tame l h.unit)

theorem retryPacket_tame (l : Leg) (h : Hand) (u : Bundle) : TameAll s (s.retryPacket l h u) := by
  unfold State.retryPacket
  simp only
  have hcount := (countFor_tame (s := s) h u l (fun c => { c with retries := bump c.retries })).trans
    (modLeg_tame l (fun x => x.count (fun c => { c with retries := bump c.retries })))
  split
  · exact hcount.trans (modLeg_tame l _)
  · exact hcount.trans (endUnit_tame l h u)

theorem answer_tame (l : Leg) (act : Hand → Bundle → State) (h : ∀ h u, TameAll s (act h u)) : TameAll s (s.answer l act) := by
  unfold State.answer
  split
  · exact modLeg_tame l _
  · split
    · exact modLeg_tame l _
    · split
      · exact h _ _
      · exact TameAll.refl s

theorem setClock_tame (n : Nat) : TameAll s { s with ownClock := n } := tameAll_of_flows fun _ => rfl

theorem permitFalls_tame (l : Leg) : TameAll s (s.permitFalls l) := by
  unfold State.permitFalls
  split
  · exact (modLegSettled_tame l _).trans (emit_tame _)
  · exact modLeg_tame l _

theorem permitRises_tame (l : Leg) : TameAll s (s.permitRises l) := by
  unfold State.permitRises
  split
  · exact (modLegSettled_tame l _).trans (emit_tame _)
  · exact (modLegSettled_tame l _).trans (emit_tame _)
  · exact modLeg_tame l _

theorem legOut_tame (l : Leg) : TameAll s (s.legOut l) := by
  unfold State.legOut
  split
  · exact emit_tame _
  · exact (modLegSettled_tame l _).trans (emit_tame _)

theorem legIn_tame (l : Leg) : TameAll s (s.legIn l) := by
  unfold State.legIn
  split
  · exact (modLegSettled_tame l _).trans (emit_tame _)
  · exact emit_tame _

end

/-! ## The order of the due times -/

/-- What an operation keeps: sound flows stay sound, and then, where the holder counts are exact, the due times keep their
order. -/
def Orderly (s t : State) : Prop :=
  (∀ f, (s.flow f).Sound) → (∀ f, (t.flow f).Sound) ∧ (s.HoldersExact → s.DuesIncrease → t.DuesIncrease)

section
variable {s t u : State}

theorem Orderly.trans (h : Orderly s t) (hc : Cells s t) (k : Orderly t u) : Orderly s u := fun hs => by
  obtain ⟨ht, hd⟩ := h hs
  obtain ⟨hu, kd⟩ := k ht
  exact ⟨hu, fun he hi => kd (hc.exact he) (hd he hi)⟩

/-- The holds of two flows are different places. -/
theorem two_flows_le_places (s : State) {f g : FlowId} (h : g ≠ f) (i : Nat) :
    (s.flow f).holds.count i + (s.flow g).holds.count i ≤ s.places i := by
  have hset := places_setFlow s f { s.flow f with slot := .empty, intakeQ := [], queueA := [], queueB := [] } i
  have hle := count_le_places (s.setFlow f { s.flow f with slot := .empty, intakeQ := [], queueA := [], queueB := [] }) g i
  rw [s.flow_setFlow_ne h] at hle
  rw [show Flow.holds { s.flow f with slot := .empty, intakeQ := [], queueA := [], queueB := [] } = [] from rfl,
    List.count_nil] at hset
  omega

/-- A unit of a leg queue does not wait to be bound, and its number is given out. -/
theorem not_open_of_queue (h : s.HoldersExact) {f : FlowId} {l : Leg} {i : Nat} (hi : i ∈ (s.flow f).queue l) :
    ¬ Open s i := by
  have hplace : 1 ≤ s.places i := places_of_queue hi
  obtain ⟨-, hunits, hheld, hwait⟩ := h
  rintro (⟨g, hg⟩ | hnext)
  · have hone : s.places i = 1 := hwait g i hg
    by_cases hfg : g = f
    · subst hfg
      have hcount := count_le_places s g i
      have hw : 0 < (waiting (s.flow g)).count i := List.count_pos_iff.mpr hg
      have hq : 0 < ((s.flow g).queue l).count i := List.count_pos_iff.mpr hi
      rw [holds_eq, List.count_append, List.count_append] at hcount
      cases l with
      | a => simp only [Flow.queue] at hq; omega
      | b => simp only [Flow.queue] at hq; omega
    · have htwo := two_flows_le_places s hfg i
      have hw : 0 < (s.flow g).holds.count i :=
        List.count_pos_iff.mpr (by rw [holds_eq]; exact List.mem_append_left _ (List.mem_append_left _ hg))
      have hq : 0 < (s.flow f).holds.count i := by
        refine List.count_pos_iff.mpr ?_
        rw [holds_eq]
        cases l with
        | a => exact List.mem_append_left _ (List.mem_append_right _ hi)
        | b => exact List.mem_append_right _ hi
      omega
  · obtain ⟨u, hu, rfl⟩ := hheld i hplace
    have := (hunits u hu).1
    omega

/-- The due time of a unit that stays in a leg queue. -/
theorem unitDue_kept (hc : Cells s t) (h : s.HoldersExact) {f g : FlowId} {l m : Leg} {i : Nat}
    (hi : i ∈ (s.flow f).queue l) (ht : i ∈ (t.flow g).queue m) : t.unitDue i = s.unitDue i := by
  obtain ⟨hnodup, -, hheld, -⟩ := hc.exact h
  obtain ⟨v, hv, rfl⟩ := hheld i (places_of_queue ht)
  have hfind := find_of_mem hnodup hv
  obtain ⟨u, hu, hal⟩ := (hc.kept h _ v hfind).resolve_right (not_open_of_queue h hi)
  rw [State.unitDue, State.unitDue, hfind, hu, hal]
  rfl

/-- A tame change keeps the order of the due times. -/
theorem orderly_of_tame (hc : Cells s t) (h : TameAll s t) : Orderly s t := fun hs => by
  refine ⟨fun f => (h f (hs f)).sound, fun he hd f l => ?_⟩
  obtain ⟨-, hqueue, hinstant⟩ := h f (hs f)
  obtain ⟨hpairs, hbefore⟩ := hd f l
  have hkept (i : Nat) (hi : i ∈ (t.flow f).queue l) : t.unitDue i = s.unitDue i :=
    unitDue_kept hc he ((hqueue l).subset hi) hi
  constructor
  · refine List.Pairwise.imp_of_mem (fun hi hj hab => ?_) (hpairs.sublist (hqueue l))
    obtain ⟨a, b, ha, hb, hlt⟩ := hab
    exact ⟨a, b, (hkept _ hi).trans ha, (hkept _ hj).trans hb, hlt⟩
  · intro i hi
    obtain ⟨d, hdue, hlt⟩ := hbefore i ((hqueue l).subset hi)
    refine ⟨d, (hkept i hi).trans hdue, fun q hq => ?_⟩
    obtain ⟨p, hp, hle⟩ := hinstant l (List.ne_nil_of_mem hi) q hq
    exact (hlt p hp).trans_le hle

end

end Sys2Proof.Proofs.FlowRecords
end

section
/-! The examination of a head keeps the flows and the order of the due times (R54-R66, R89), and so does every act. -/

namespace Sys2Proof.Proofs.FlowRecords

open Sys2Proof Sys2Proof.Machine Sys2Proof.Proofs.Frames Sys2Proof.Proofs.Acts Sys2Proof.Proofs.Admission
  Sys2Proof.Proofs.Pacing Sys2Proof.Proofs.Roundings Sys2Proof.Proofs.CellStore Sys2Proof.Proofs.Binder

/-! ## The head bound -/

theorem appendedQueue_length_le {q : List Nat} (h : q.length ≤ 8) (id : Nat) : (appendedQueue q id).length ≤ 8 := by
  unfold appendedQueue
  split
  · rw [List.length_append, List.length_tail, List.length_singleton]
    omega
  · rw [List.length_append, List.length_singleton]
    omega

/-- The due times of a queue strictly increase, and stay below a bound. -/
def Increasing (due : Nat → Option Nat) (bound : Nat) (q : List Nat) : Prop :=
  q.Pairwise (fun x y => ∃ a b, due x = some a ∧ due y = some b ∧ a < b) ∧ ∀ i ∈ q, ∃ d, due i = some d ∧ d < bound

theorem increasing_sublist {due due' : Nat → Option Nat} {bound bound' : Nat} {q r : List Nat} (h : Increasing due bound q)
    (hr : r.Sublist q) (hdue : ∀ i ∈ r, due' i = due i) (hle : bound ≤ bound') : Increasing due' bound' r := by
  obtain ⟨hpairs, hbefore⟩ := h
  refine ⟨List.Pairwise.imp_of_mem (fun hi hj hab => ?_) (hpairs.sublist hr), fun i hi => ?_⟩
  · obtain ⟨a, b, ha, hb, hlt⟩ := hab
    exact ⟨a, b, (hdue _ hi).trans ha, (hdue _ hj).trans hb, hlt⟩
  · obtain ⟨d, hd, hlt⟩ := hbefore i (hr.subset hi)
    exact ⟨d, (hdue i hi).trans hd, hlt.trans_le hle⟩

/-- A unit appended that is due at the bound. -/
theorem increasing_appended {due due' : Nat → Option Nat} {bound bound' id : Nat} {q : List Nat} (h : Increasing due bound q)
    (hdue : ∀ i ∈ q, i ∈ appendedQueue q id → due' i = due i) (hid : due' id = some bound) (hlt : bound < bound') :
    Increasing due' bound' (appendedQueue q id) := by
  unfold appendedQueue at hdue ⊢
  have hsub : (if 8 ≤ q.length then q.tail else q).Sublist q := by
    split
    · exact List.tail_sublist q
    · exact List.Sublist.refl q
  obtain ⟨hpairs, hbefore⟩ := increasing_sublist (due' := due') h hsub
    (fun i hi => hdue i (hsub.subset hi) (List.mem_append_left _ hi)) le_rfl
  refine ⟨List.pairwise_append.mpr ⟨hpairs, List.pairwise_singleton _ _, fun i hi j hj => ?_⟩, fun i hi => ?_⟩
  · obtain rfl := List.mem_singleton.mp hj
    obtain ⟨d, hd, hlt'⟩ := hbefore i hi
    exact ⟨d, bound, hd, hid, hlt'⟩
  · obtain hi | hi := List.mem_append.mp hi
    · obtain ⟨d, hd, hlt'⟩ := hbefore i hi
      exact ⟨d, hd, hlt'.trans hlt⟩
    · obtain rfl := List.mem_singleton.mp hi
      exact ⟨bound, hid, hlt⟩

/-- The order of the due times of a LOCKED flow. -/
theorem increasing_iff {s : State} {f : FlowId} {p : Position} (hp : (s.flow f).lock = some p) (l : Leg) :
    (((s.flow f).queue l).Pairwise (fun x y => ∃ a b, s.unitDue x = some a ∧ s.unitDue y = some b ∧ a < b) ∧
      ∀ id ∈ (s.flow f).queue l, ∃ d, s.unitDue id = some d ∧
        ∀ p, (s.flow f).lock = some p → d < p.q + (s.flow f).params.o + p.off) ↔
    Increasing s.unitDue (p.due (s.flow f).params) ((s.flow f).queue l) := by
  refine and_congr_right fun _ => forall₂_congr fun i _ => exists_congr fun d => and_congr_right fun _ => ?_
  refine ⟨fun h => h p hp, fun h q hq => ?_⟩
  cases hp.symm.trans hq
  exact h

/-- A flow of one leg that may be examined has no unit bound. -/
theorem queue_nil_of_bindable {x : Flow} (hb : x.bindable = true) {l : Leg} (hl : x.params.legs.uses l = true)
    (hd : x.params.legs ≠ .dual) : x.queue l = [] := by
  rw [Flow.bindable, Bool.and_eq_true, List.any_eq_true] at hb
  obtain ⟨-, m, hm, hempty⟩ := hb
  have hlm : m = l := by
    cases hlegs : x.params.legs with
    | dual => exact absurd hlegs hd
    | none => rw [hlegs] at hm; cases hm
    | a => rw [hlegs] at hm hl; cases l <;> simp_all [Legs.list, Legs.uses]
    | b => rw [hlegs] at hm hl; cases l <;> simp_all [Legs.list, Legs.uses]
  exact hlm ▸ List.isEmpty_iff.mp hempty

section
variable {x : Flow} {p : Position} {id : Nat} {rest : List Nat} (hp : x.lock = some p) (hq : x.intakeQ = id :: rest)
include hp hq

theorem boundRecord_queue (l : Leg) :
    (boundRecord x id).queue l = if x.params.legs.uses l then appendedQueue (x.queue l) id else x.queue l := by
  rw [boundRecord_eq hp hq]
  cases l <;> rfl

theorem boundRecord_sound (h : x.Sound) (hb : x.bindable = true) : (boundRecord x id).Sound := by
  obtain ⟨hst, hd, hpaced, hdirect⟩ := locked_sound h hp
  have hnext := direct_advance hpaced hdirect
  rw [← hd] at hnext
  have hqueue := boundRecord_queue hp hq
  have hlength (l : Leg) : ((boundRecord x id).queue l).length ≤
      if x.params.legs = .dual then 8 else if x.params.legs.uses l then 1 else 0 := by
    have hold := h.queues l
    rw [hqueue]
    by_cases hdual : x.params.legs = .dual
    · rw [if_pos hdual] at hold ⊢
      split
      · exact appendedQueue_length_le hold id
      · exact hold
    · rw [if_neg hdual] at hold ⊢
      split
      next hu =>
        rw [queue_nil_of_bindable hb hu hdual]
        exact le_rfl
      next hu =>
        rw [if_neg hu] at hold
        exact hold
  rw [boundRecord_eq hp hq] at hlength ⊢
  refine ⟨h.declared, ?_, h.slot, fun hidle => ?_, fun _ => Option.some_ne_none _, fun he => absurd he (Option.some_ne_none _),
    fun q hq' => ?_, h.credits, hlength⟩
  · have hintake := h.intake
    rw [hq, List.length_cons] at hintake
    change rest.length + x.slot.units.length ≤ x.params.qmax
    omega
  · have := h.intakeQ hidle
    rw [hq] at this
    cases this
  · cases hq'
    exact ⟨hst, hnext.q, hnext.r, hnext.off, hnext.rem, hnext.below⟩

/-- The head discarded as late: the position moves on (R63, R65). -/
theorem tame_late : Tame x (lateRecord x) := by
  rw [lateRecord_eq hp hq]
  refine tame_moved x _ rest hp (by rw [hq]; exact Nat.le_succ _) fun h => ?_
  obtain ⟨-, hd, hpaced, hdirect⟩ := locked_sound h hp
  rw [hd]
  exact ⟨direct_advance hpaced hdirect, (due_lt_advance hpaced hdirect).le⟩

end

section
variable {s : State} {f : FlowId} {id : Nat} {rest : List Nat} (hq : (s.flow f).intakeQ = id :: rest)
include hq

/-- The head has the due time it is bound with. -/
theorem unitDue_bound (h : s.HoldersExact) (due : Nat) : (s.bindHead f id due).unitDue id = some due := by
  have hexact := h
  obtain ⟨hnodup, -, hheld, -⟩ := hexact
  have hwaits : id ∈ waiting (s.flow f) := List.mem_append_right _ (by rw [hq]; exact List.mem_cons_self)
  obtain ⟨u, hu, rfl⟩ := hheld id (places_of_waiting hwaits)
  have hnot : u.id ∉ (if (s.flow f).params.legs.uses .a then lagging (s.flow f).queueA else []) ++
      (if (s.flow f).params.legs.uses .b then lagging (s.flow f).queueB else []) := by
    have hqueues := notMem_queues h (f := f) (i := u.id) (by rw [hq]; exact List.mem_cons_self)
    rw [List.mem_append, not_or] at hqueues ⊢
    have hlag (q : List Nat) (hm : u.id ∉ q) (c : Bool) : u.id ∉ (if c then lagging q else []) := by
      intro hin
      split at hin
      · unfold lagging at hin
        split at hin
        · exact hm (List.mem_of_mem_take hin)
        · cases hin
      · cases hin
    exact ⟨hlag _ hqueues.1 _, hlag _ hqueues.2 _⟩
  have hfind (n : Nat) : (s.store.bind u.id due n).find u.id = some { u with due := some due, holders := n } := by
    refine find_of_mem (u := { u with due := some due, holders := n }) ?_ ?_
    · rw [ids_bind]
      exact hnodup
    · rw [Store.bind, updateFirst_eq_map hnodup]
      exact List.mem_map.mpr ⟨u, hu, if_pos rfl⟩
  rw [State.unitDue, bindHead_store, find_releases_of_notMem _ hnot, hfind]
  rfl

variable (hb : (s.flow f).bindable = true)
include hb

/-- The head bound joins its leg queues behind units that are due before it, and before the new position's instant. -/
theorem bindHead_orderly {p : Position} (hp : (s.flow f).lock = some p) :
    Orderly s (s.bindHead f id (p.due (s.flow f).params)) := fun hs => by
  have halters := bindHead_alters s f id (p.due (s.flow f).params)
  have hcells : Cells s (s.bindHead f id (p.due (s.flow f).params)) := bindHead_cells s f _ hq (bindable_legs hb)
  obtain ⟨-, hd, hpaced, hdirect⟩ := locked_sound (hs f) hp
  refine ⟨fun g => ?_, fun hexact hincrease g l => ?_⟩
  · rw [halters g]
    split
    · exact boundRecord_sound hp hq (hs f) hb
    · exact hs g
  · have hold := hincrease g l
    have hkept (i : Nat) (hi : i ∈ (s.flow g).queue l)
        (ht : i ∈ ((s.bindHead f id (p.due (s.flow f).params)).flow g).queue l) :
        (s.bindHead f id (p.due (s.flow f).params)).unitDue i = s.unitDue i := unitDue_kept hcells hexact hi ht
    by_cases hg : g = f
    · subst hg
      have hself := alters_self halters
      have hlock : ((s.bindHead g id (p.due (s.flow g).params)).flow g).lock =
          some (p.advance (s.flow g).params (s.flow g).derived) := by
        rw [hself, boundRecord_eq hp hq]
      have hparams : (boundRecord (s.flow g) id).params = (s.flow g).params := by rw [boundRecord_eq hp hq]
      have hlt : p.due (s.flow g).params <
          (p.advance (s.flow g).params (s.flow g).derived).due (s.flow g).params := by
        rw [hd]
        exact due_lt_advance hpaced hdirect
      have hold := (increasing_iff hp l).mp hold
      refine (increasing_iff hlock l).mpr ?_
      rw [hself, boundRecord_queue hp hq] at hkept ⊢
      rw [hparams]
      split at hkept
      next hu =>
        rw [if_pos hu]
        exact increasing_appended hold hkept (unitDue_bound hq hexact _) hlt
      next hu =>
        rw [if_neg hu]
        exact increasing_sublist hold (List.Sublist.refl _) (fun i hi => hkept i hi hi) hlt.le
    · obtain ⟨hpairs, hbefore⟩ := hold
      rw [alters_other halters hg] at hkept ⊢
      refine ⟨List.Pairwise.imp_of_mem (fun hi hj hab => ?_) hpairs, fun i hi => ?_⟩
      · obtain ⟨a, b, ha, hb, hlt⟩ := hab
        exact ⟨a, b, (hkept _ hi hi).trans ha, (hkept _ hj hj).trans hb, hlt⟩
      · obtain ⟨d, hdue, hlt⟩ := hbefore i hi
        exact ⟨d, (hkept i hi hi).trans hdue, hlt⟩

/-! ## The examination -/

theorem placeHead_orderly (now : Nat) : Orderly s (s.placeHead f id now) := by
  have hcells := placeHead_cells s f now hq (bindable_legs hb)
  cases hp : (s.flow f).lock with
  | none =>
    rw [State.placeHead, hp]
    exact orderly_of_tame (Cells.refl s) (TameAll.refl s)
  | some p =>
    by_cases hlate : (s.flow f).params.late now (p.due (s.flow f).params) = true
    · rw [placeHead_late hp id now hlate] at hcells ⊢
      exact orderly_of_tame hcells (tameAll_of_alters (lateHead_alters s f id) (tame_late hp hq))
    · rw [placeHead_bound hp id now hlate]
      exact bindHead_orderly hq hb hp

theorem relocked_orderly (now : Nat) {p : Position} (hp : (s.flow f).lock = some p) :
    Orderly s ((s.relockFlow f now p).placeHead f id now) := fun hs => by
  obtain ⟨hst, -⟩ := locked_sound (hs f) hp
  have hstate := relockFlow_state now p (hs f)
  have halters : Alters s (s.relockFlow f now p) f (relockedRecord (s.flow f) ((s.flow f).params.lockFrame now) p.k) := by
    intro g
    rw [hstate]
    exact s.flow_setFlow f g _
  have hself := alters_self halters
  have htame : TameAll s (s.relockFlow f now p) := by
    refine tameAll_of_alters halters (tame_placed _ _ _ (holdsLoad_of_bindable hb) (fun _ => rfl) (fun _ => hst) fun _ harm => ?_)
    rcases hst with e | e
    · exact e
    · rw [e] at harm
      rcases harm with h | h <;> cases h
  have hcells := relockFlow_cells s f now p
  refine Orderly.trans (orderly_of_tame hcells htame) hcells (placeHead_orderly (rest := rest) ?_ ?_ now) hs
  · rw [hself]
    exact hq
  · rw [hself]
    exact bindable_emptied hb rfl rfl rfl rfl

theorem frameHead_orderly (now : Nat) : Orderly s (s.frameHead f id now) := by
  unfold State.frameHead
  split
  · exact orderly_of_tame (Cells.refl s) (TameAll.refl s)
  next hp =>
    split
    · exact relocked_orderly hq hb now hp
    · exact placeHead_orderly hq hb now

theorem discardHead_orderly (g : FlowCounters → FlowCounters) : Orderly s (s.discardHead f id g) := by
  refine orderly_of_tame (discardHead_cells s f hq g) (TameAll.trans (modFlow_tame f ?_) (releaseAll_tame [id]))
  refine tame_intake (s.flow f) (s.flow f).slot _ _ (holdsLoad_of_bindable hb) (.inr (.inr rfl))
    (le_max_of_le_right (Nat.add_le_add_right ?_ _))
  exact (List.tail_sublist (s.flow f).intakeQ).length_le

omit hq hb in
theorem shortFrame_orderly {p : Position} (hp : (s.flow f).lock = some p) : Orderly s (s.shortFrame f p) := by
  refine orderly_of_tame (shortFrame_still s f p).cells (modFlow_tame f ?_)
  refine tame_moved (s.flow f) _ (s.flow f).intakeQ hp le_rfl fun h => ?_
  obtain ⟨-, hd, hpaced, hdirect⟩ := locked_sound h hp
  rw [hd]
  exact ⟨direct_nextFrame hpaced hdirect, (due_lt_nextFrame hpaced hdirect).le⟩

theorem lockedHead_orderly (fs : Bool) (now : Nat) : Orderly s (s.lockedHead f id fs now) := by
  unfold State.lockedHead
  split
  · unfold State.essenceHead
    split
    · exact orderly_of_tame (Cells.refl s) (TameAll.refl s)
    next hp =>
      split
      · exact relocked_orderly hq hb now hp
      · exact placeHead_orderly hq hb now
  · unfold State.rasterHead
    split
    · exact orderly_of_tame (Cells.refl s) (TameAll.refl s)
    next p hp =>
      have hself : (s.shortFrame f p).flow f = _ := alters_self (alters_modFlow s f _)
      split_ifs
      · refine (shortFrame_orderly hp).trans (shortFrame_still s f p).cells (frameHead_orderly (rest := rest) ?_ ?_ now)
        · rw [hself]; exact hq
        · rw [hself]; exact hb
      · exact frameHead_orderly hq hb now
      · exact discardHead_orderly hq hb _
      · exact placeHead_orderly hq hb now

omit hq hb in
theorem bindable_congr {x y : Flow} (h : y.holdsLoad = x.holdsLoad) (hparams : y.params = x.params)
    (ha : y.queueA = x.queueA) (hb : y.queueB = x.queueB) : y.bindable = x.bindable := by
  have hqueue (l : Leg) : y.queue l = x.queue l := by
    cases l with
    | a => exact ha
    | b => exact hb
  simp only [Flow.bindable, h, hparams, hqueue]

omit hq in
/-- A flow that locks was UNLOCKED, so that nothing of it is bound (R53, R56). -/
theorem lockFlow_tame (now : Nat) (hnone : (s.flow f).lock = none) : TameAll s (s.lockFlow f now) := by
  have hload := holdsLoad_of_bindable hb
  have hstate (h : (s.flow f).Sound) : (s.flow f).state = .armed ∨ (s.flow f).state = .draining := by
    simp only [Flow.holdsLoad, Flow.accepts, Bool.or_eq_true, beq_iff_eq] at hload
    rcases hload with (e | e) | e
    · exact .inl e
    · exact absurd hnone (h.running e)
    · exact .inr e
  refine tameAll_of_alters (lockFlow_alters s f now) (tame_placed _ _ ((s.flow f).params.lockFrame now) hload (fun h => ?_)
    (fun h => ?_) fun h harm => ?_)
  · have ha : (s.flow f).queueA = [] := (h.unlocked hnone .a).1
    have hb : (s.flow f).queueB = [] := (h.unlocked hnone .b).1
    simp only [lockedRecord, Flow.noCredit, ha, hb]
  · rcases hstate h with e | e <;> simp [lockedRecord, e]
  · rcases harm with e | e
    · simp [lockedRecord, e]
    · exact absurd hnone (h.running e)

theorem examineHead_orderly (fs : Bool) (now : Nat) : Orderly s (s.examineHead f id fs now) := by
  unfold State.examineHead
  split
  next hnone =>
    unfold State.unlockedHead
    split
    · have hself := alters_self (lockFlow_alters s f now)
      have hcells := (lockFlow_still s f now).cells
      refine (orderly_of_tame hcells (lockFlow_tame hb now hnone)).trans hcells (lockedHead_orderly (rest := rest) ?_ ?_ fs now)
      · rw [hself]; exact hq
      · have hload := ((lockFlow_data s f now).flows f).holdsLoad
        rw [hself] at hload ⊢
        exact (bindable_congr hload rfl rfl rfl).trans hb
    · exact discardHead_orderly hq hb _
  · exact lockedHead_orderly hq hb fs now

end

/-! ## Every act -/

section
variable {s t : State} {c : Instr}

theorem orderly_of_dataAct (h : DataAct s c t) : Orderly s t := by
  have hcells := cells_of_dataAct h
  cases h with
  | examine c f id now rest hq hnow hb => exact examineHead_orderly hq hb _ now
  | idle => exact orderly_of_tame hcells (TameAll.refl s)
  | port c p => exact orderly_of_tame hcells (tameAll_of_flows fun _ => rfl)
  | latch => exact orderly_of_tame hcells (setTime_tame _)
  | packet c flow p => exact orderly_of_tame hcells (judgePacket_tame flow p)
  | startDrain c f h => exact orderly_of_tame hcells (startDrain_tame f h)
  | flush c f clock => exact orderly_of_tame hcells ((setClock_tame clock).trans (flushFlow_tame f))
  | validReading c x => exact orderly_of_tame hcells (clockTick_tame.trans (validReading_tame x))
  | invalidReading =>
    refine orderly_of_tame hcells (clockTick_tame.trans ?_)
    unfold State.invalidReading
    split
    · exact (setTime_tame _).trans (emit_tame _)
    · exact TameAll.refl _
  | serve l e now hfit hreq hhand hnamed =>
    obtain ⟨-, -, ⟨rest, hq⟩, -⟩ := Calendar.named_eligible s l hnamed
    exact orderly_of_tame hcells (serve_tame hq now)
  | take l => exact orderly_of_tame hcells (answer_tame l _ (takePacket_tame l))
  | retry l => exact orderly_of_tame hcells (answer_tame l _ (retryPacket_tame l))
  | fault l => exact orderly_of_tame hcells (answer_tame l _ (endUnit_tame l))
  | reoffer c l => exact orderly_of_tame hcells (modLeg_tame l _)
  | permitFalls c l => exact orderly_of_tame hcells (permitFalls_tame l)
  | permitRises c l => exact orderly_of_tame hcells (permitRises_tame l)
  | stallRanOut c l d =>
    exact orderly_of_tame hcells (((setClock_tame _).trans (modLegSettled_tame l _)).trans (emit_tame _))
  | setFreeze c level => exact orderly_of_tame hcells (tameAll_of_flows fun _ => rfl)
  | legOut c l => exact orderly_of_tame hcells (legOut_tame l)
  | legIn c l => exact orderly_of_tame hcells (legIn_tame l)

theorem flow_afterReset_sound : Flow.afterReset.Sound :=
  sound_of_bare ⟨rfl, rfl, fun l => by cases l <;> rfl, rfl, fun l => by cases l <;> rfl⟩ (by decide) fun h => absurd rfl h

theorem afterReset_sound (straps : Straps) (a b z : Bool) (pending : List Instr) (f : FlowId) :
    ((State.afterReset straps a b z pending).flow f).Sound := by
  rw [flow_afterReset]
  exact flow_afterReset_sound

theorem afterReset_dues (straps : Straps) (a b z : Bool) (pending : List Instr) :
    (State.afterReset straps a b z pending).DuesIncrease := fun f l => by
  have hqueue : ((State.afterReset straps a b z pending).flow f).queue l = [] := by
    rw [flow_afterReset]
    cases l <;> rfl
  rw [hqueue]
  exact ⟨List.Pairwise.nil, fun i hi => absurd hi List.not_mem_nil⟩

theorem act_keeps_flows (h : Act s c t) (hs : s.FlowsSound) :
    t.FlowsSound ∧ (s.HoldersExact → s.DuesIncrease → t.DuesIncrease) := by
  obtain ⟨hclaims, hsound⟩ := hs
  have hkeep (h : Act s c t) (ho : Orderly s t) : t.FlowsSound ∧ (s.HoldersExact → s.DuesIncrease → t.DuesIncrease) :=
    ⟨⟨act_keeps_claims h hclaims, (ho hsound).1⟩, (ho hsound).2⟩
  refine hkeep h ?_
  cases h with
  | hold => exact fun hs => ⟨hs, fun _ hd => hd⟩
  | reset straps a b z =>
    exact fun _ => ⟨afterReset_sound straps a b z s.pending, fun _ _ => afterReset_dues straps a b z s.pending⟩
  | data h => exact orderly_of_dataAct h
  | adm h => exact orderly_of_tame (cells_of_adm h.step) fun g => tame_of_moves (moves_of_admAct h hclaims) hclaims g
  | ended f reason h _ hdrained hslot =>
    exact (orderly_of_dataAct h).trans (cells_of_dataAct h)
      (orderly_of_tame (cells_of_adm (flowToFree_adm _ f reason)) (flowToFree_tame f reason hdrained hslot))

end

/-- Settles O56: no change of a record but a binding appends to a leg queue, and a binding appends the unit due at the
position's instant before the position moves on. -/
theorem everyStepKeepsTheFlows : Obligations.EveryStepKeepsTheFlows := by
  intro s t hs hstep
  obtain rfl | ⟨c, rest, h⟩ := act_of_step hstep
  · exact ⟨hs, fun _ hd => hd⟩
  · have hkeeps := act_keeps_flows h hs
    exact hkeeps

end Sys2Proof.Proofs.FlowRecords
end

section
/-! The state at the end of a full reset, and the invariants it meets (R168, R169). -/

namespace Sys2Proof.Proofs.Reset

open Sys2Proof Sys2Proof.Machine

theorem exec_resetEnd (straps : Straps) (a b z : Bool) (s : State) :
    exec (.resetEnd straps a b z) s = .next (State.afterReset straps a b z s.pending) := rfl

theorem peer_afterReset (straps : Straps) (a b z : Bool) (pending : List Instr) (i : StationId) :
    (State.afterReset straps a b z pending).peer i = PeerEntry.absent := by
  simp [State.peer, State.afterReset]

/-- A fitted leg after a full reset, by its permit line. -/
theorem leg_afterReset (straps : Straps) (a b z : Bool) (pending : List Instr) (l : Leg)
    (h : (State.afterReset straps a b z pending).fitted l = true) :
    (State.afterReset straps a b z pending).leg l = EgressLeg.afterReset (match l with | .a => a | .b => b) z := by
  cases l with
  | a => rfl
  | b => exact if_pos h

/-- Settles O4: the state after reset, read block by block. -/
theorem resetEndSetsEveryBlock : Obligations.ResetEndSetsEveryBlock := by
  intro straps a b z s
  refine ⟨_, exec_resetEnd straps a b z s, rfl, rfl, rfl, rfl, fun f => CellStore.flow_afterReset straps a b z _ f, rfl, rfl,
    rfl, rfl, rfl, fun l hl => ?_, rfl, fun i => peer_afterReset straps a b z _ i, rfl, ?_, rfl, rfl, rfl, rfl, rfl⟩
  · have hclock : (State.afterReset straps a b z s.pending).ownClock + 10000000 = Config.stallNs := Nat.zero_add _
    rw [leg_afterReset straps a b z _ l hl, hclock]
    cases l <;> rfl
  · exact (Nat.zero_add _).symm

/-- Settles O59: each invariant holds at reset, by the lemma beside its step lemma. -/
theorem resetMeetsTheInvariants : Obligations.ResetMeetsTheInvariants := by
  refine ⟨rfl, fun straps a b z u => ?_⟩
  exact ⟨exec_resetEnd straps a b z u, Nat.zero_le _, CellStore.afterReset_whole straps a b z _,
    CellStore.afterReset_exact straps a b z _, Requests.afterReset_settled straps a b z _,
    (Admission.ownEntryExact_iff _).mpr ⟨Admission.afterReset_claims straps a b z _, Admission.afterReset_owns straps a b z _⟩,
    ⟨Admission.afterReset_claims straps a b z _, FlowRecords.afterReset_sound straps a b z _⟩,
    FlowRecords.afterReset_dues straps a b z _, SendList.afterReset_sends straps a b z _,
    Counters.afterReset_bounded u straps a b z, Counters.afterReset_bits u straps a b z⟩

end Sys2Proof.Proofs.Reset
end

section
/-! The Flow Table's commands: the ends of a flow, and the directives before admission (R4-R17). -/

namespace Sys2Proof.Proofs.FlowEnds

open Sys2Proof Sys2Proof.Machine Sys2Proof.Proofs.Frames Sys2Proof.Proofs.Acts Sys2Proof.Proofs.Admission

/-! ## The passage to FREE (R9) -/

section
variable (s : State)

theorem syncLoad_eq : s.syncLoad = { s with line := { s.line with
    sendList := if s.line.sendList.any (fun e => e.notice.isLoad) then
      addLoad s.adm.ownA s.adm.ownB s.ownCount s.line.sendList else s.line.sendList } } := by
  unfold State.syncLoad
  split <;> rfl

theorem speaks_iff (x : StationState) : x.speaks = true ↔ x = .listenIn ∨ x = .active := by
  simp [StationState.speaks]

theorem queueYield_eq (legs : Legs) (n : Nat) : s.queueYield legs n = { s with line := { s.line with
    sendList := if s.view.station = .listenIn ∨ s.view.station = .active then
      addYield legs.code n s.line.sendList else s.line.sendList } } := by
  unfold State.queueYield
  by_cases h : s.view.station = .listenIn ∨ s.view.station = .active
  · rw [if_pos ((speaks_iff _).mpr h), if_pos h]
    rfl
  · rw [if_neg (fun hs => h ((speaks_iff _).mp hs)), if_neg h]

/-- A leg with the unit of a flow in its hand detached (R9, R10). -/
def detachedLeg (f : FlowId) (x : EgressLeg) : EgressLeg :=
  match x.hand with
  | some h => if s.unitFlow h.unit = some f then { x with hand := some { h with detached := true } } else x
  | none => x

theorem detachedLeg_of_hand {f : FlowId} {x : EgressLeg} {h : Hand} (hh : x.hand = some h) : detachedLeg s f x =
    if s.unitFlow h.unit = some f then { x with hand := some { h with detached := true } } else x := by
  rw [detachedLeg, hh]

theorem detachedLeg_of_idle {f : FlowId} {x : EgressLeg} (hh : x.hand = none) : detachedLeg s f x = x := by
  rw [detachedLeg, hh]

theorem detach_eq (f : FlowId) (l : Leg) : s.detach f l = s.setLeg l (detachedLeg s f (s.leg l)) := by
  cases hh : (s.leg l).hand with
  | none =>
    rw [detachedLeg_of_idle s hh, s.setLeg_leg]
    simp only [State.detach, hh]
  | some h =>
    rw [detachedLeg_of_hand s hh]
    simp only [State.detach, hh]
    split
    · rfl
    · exact (s.setLeg_leg l).symm

theorem gaveBack_eq (f : FlowId) : SendList.gaveBack s f = { s.setFlow f (s.flow f).freed with
    legA := detachedLeg s f s.legA
    legB := detachedLeg s f s.legB
    adm := s.adm.give (s.flow f).params.legs (s.flow f).derived.load } := by
  rw [SendList.gaveBack, detach_eq, detach_eq]
  rfl

/-- The send list after a flow's load left the own entry: a YIELD where the station speaks, and a pending LOAD brought up
to date (R137, R155, R156). -/
def yieldedList (x : Flow) (t : State) : List SendEntry :=
  let yielded :=
    if s.view.station = .listenIn ∨ s.view.station = .active then
      addYield x.params.legs.code x.derived.load s.line.sendList
    else s.line.sendList
  if yielded.any (fun e => e.notice.isLoad) then addLoad t.adm.ownA t.adm.ownB t.ownCount yielded else yielded

/-- The passage to FREE, whole (R9). -/
theorem flowToFree_eq (f : FlowId) (reason : ClosedReason) : s.flowToFree f reason = { s.setFlow f (s.flow f).freed with
    legA := detachedLeg s f s.legA
    legB := detachedLeg s f s.legB
    adm := s.adm.give (s.flow f).params.legs (s.flow f).derived.load
    line := { s.line with sendList := yieldedList s (s.flow f) (SendList.gaveBack s f) }
    port := s.port.add s.stationTime (.flowClosed f reason (s.flow f).params.cls (s.flow f).params.legs
      (s.flow f).shownCounters) } := by
  have hself : (s.flowToFree f reason).flow f = (s.flow f).freed := by rw [flow_flowToFree, if_pos rfl]
  rw [SendList.flowToFree_eq, State.emitClosed]
  rw [SendList.flowToFree_eq, State.emitClosed, State.flow_emit] at hself
  rw [hself, syncLoad_eq, queueYield_eq]
  unfold yieldedList
  rw [gaveBack_eq]
  rfl

end

section
variable {s : State} {f : FlowId} {x : Flow} {store : Store}

/-- The passage to FREE of a flow whose discards left the record x and the Cell Store as given. -/
theorem flowEnded_of_discards (reason : ClosedReason) :
    s.FlowEnded (State.flowToFree { s.setFlow f x with store := store } f reason) f reason x ∧
      (State.flowToFree { s.setFlow f x with store := store } f reason).store = store := by
  have hself : State.flow { s.setFlow f x with store := store } f = x := s.flow_setFlow_self f x
  have heq := flowToFree_eq { s.setFlow f x with store := store } f reason
  have hflow := flow_flowToFree { s.setFlow f x with store := store } f reason
  rw [hself] at heq hflow
  refine ⟨⟨?_, fun g hg => ?_, fun l => ?_, ?_, ?_, ?_, ?_⟩, ?_⟩
  · rw [hflow, if_pos rfl]
    rfl
  · rw [hflow, if_neg hg]
    exact s.flow_setFlow_ne hg x
  · rw [heq]
    cases l <;> rfl
  · rw [heq]
    rfl
  · have hgave := gaveBack_eq { s.setFlow f x with store := store } f
    rw [hself] at hgave
    rw [heq, hgave]
    rfl
  · rw [heq]
    rfl
  · rw [heq]
    rfl
  · rw [heq]
    rfl

end

/-! ## The discards before it (R11, R13, R14) -/

section
variable (s : State) (f : FlowId)

/-- The record of a flow whose slot and queues were flushed (R13, R14). -/
def flushedRecord (x : Flow) : Flow :=
  { x with
    slot := .empty, intakeQ := [], queueA := [], queueB := []
    counters := { x.counters with closeFlush := raise x.counters.closeFlush x.heldUnits } }

theorem flushFlow_eq : s.flushFlow f = { s.setFlow f (flushedRecord (s.flow f)) with
    store := (s.flow f).holds.foldl Store.release s.store } := by
  rw [State.flushFlow, State.releaseAll_eq]
  rfl

/-- The record of a flow that begins to drain (R11). -/
def drainingRecord (x : Flow) (clock : Nat) : Flow :=
  { x with
    state := .draining, slot := .empty, drain := some (clock + 1000000000)
    counters := { x.counters with closeFlush := raise x.counters.closeFlush x.slot.units.length } }

theorem startDrain_eq : s.startDrain f = { s.setFlow f (drainingRecord (s.flow f) s.ownClock) with
    store := (s.flow f).slot.units.foldl Store.release s.store } := by
  rw [State.startDrain, State.releaseAll_eq]
  rfl

theorem heldUnits_eq (x : Flow) : x.heldUnits = x.slot.units.length + x.intakeQ.length +
    (x.queueA.length + (x.queueB.filter (fun u => !x.queueA.contains u)).length) := by
  rw [Flow.heldUnits, distinct, List.length_append]

/-- A flow flushed and taken to FREE. -/
theorem flushed_ends (reason : ClosedReason) :
    s.FlowEnded ((s.flushFlow f).flowToFree f reason) f reason (flushedRecord (s.flow f)) ∧
      ((s.flushFlow f).flowToFree f reason).store = (s.flow f).holds.foldl Store.release s.store := by
  rw [flushFlow_eq]
  exact flowEnded_of_discards reason

theorem drained_iff (x : Flow) : x.drained = true ↔
    x.intakeQ = [] ∧ x.queueA = [] ∧ x.queueB = [] ∧ x.slot.units = [] := by
  simp only [Flow.drained, Bool.and_eq_true, List.isEmpty_iff, and_assoc]
  refine and_congr_right fun _ => and_congr_right fun _ => and_congr_right fun _ => ?_
  cases x.slot <;> simp [Slot.units]

end

section
variable {s : State} {flow : Byte} {f : FlowId} (hready : s.intakeReady = true) (hflow : flow.toNat = f.val)
include hready hflow

theorem exec_close : exec (.close flow) s = .next (closeFlow flow f s) := by
  change onRecord s (s.withFlow flow codeClose (fun f => closeFlow flow f s)) = _
  rw [onRecord_ready hready, s.withFlow_known hflow]

theorem exec_abandon : exec (.abandon flow) s = .next (abandonFlow flow f s) := by
  change onRecord s (s.withFlow flow codeAbandon (fun f => abandonFlow flow f s)) = _
  rw [onRecord_ready hready, s.withFlow_known hflow]

end

/-- Settles O8: the drain starts, and the drain test ends the flow where nothing is left of it. -/
theorem closeStartsTheDrain : Obligations.CloseStartsTheDrain := by
  intro flow f s hready hflow hst x y store
  have hclose : exec (.close flow) s = .next ((s.startDrain f).drainTest f) := by
    rw [exec_close hready hflow, closeFlow]
    rcases hst with e | e <;> rw [e]
  have hstore : store = (s.flow f).slot.units.foldl Store.release s.store := by
    change (match (s.flow f).slot with | .opened u => s.store.release u | _ => s.store) = _
    cases (s.flow f).slot <;> rfl
  have hself : (s.startDrain f).flow f = drainingRecord (s.flow f) s.ownClock := by
    rw [startDrain_eq]
    exact s.flow_setFlow_self f _
  have hdrained : ((s.startDrain f).flow f).drained = true ↔ x.intakeQ = [] ∧ x.queueA = [] ∧ x.queueB = [] := by
    rw [hself, drained_iff]
    exact ⟨fun ⟨h1, h2, h3, _⟩ => ⟨h1, h2, h3⟩, fun ⟨h1, h2, h3⟩ => ⟨h1, h2, h3, rfl⟩⟩
  rw [hclose, State.drainTest, hstore]
  split
  next h =>
    rw [if_pos (hdrained.mpr h), startDrain_eq]
    exact ⟨_, rfl, flowEnded_of_discards .drained⟩
  next h =>
    rw [if_neg (fun hd => h (hdrained.mp hd)), startDrain_eq]
    rfl

/-- Settles O10: the flow is flushed and goes to FREE. -/
theorem abandonFlushesTheFlow : Obligations.AbandonFlushesTheFlow := by
  intro flow f s hready hflow hst x flushed
  have habandon : exec (.abandon flow) s = .next ((s.flushFlow f).flowToFree f .abandoned) := by
    rw [exec_abandon hready hflow, abandonFlow]
    rcases hst with e | e | e <;> rw [e]
  have hends := flushed_ends s f .abandoned
  rw [flushedRecord, heldUnits_eq] at hends
  exact ⟨_, habandon, hends⟩

/-- Settles O11: a drained flow goes to FREE as it is, one whose timer ran out is flushed first. -/
theorem drainsEnd : Obligations.DrainsEnd := by
  intro f s hreset hst x
  refine ⟨fun hq ha hb hslot => ⟨s.flowToFree f .drained, ?_, ?_⟩, fun d hd => ⟨s.drainRanOut f d, ?_, ?_⟩⟩
  · refine whenever_true hreset ?_
    rw [Bool.and_eq_true, beq_iff_eq, drained_iff]
    exact ⟨hst, hq, ha, hb, hslot⟩
  · have hends := flowEnded_of_discards (s := s) (f := f) (x := s.flow f) (store := s.store) .drained
    rw [s.setFlow_flow f] at hends
    exact hends
  · change execDrainLimit f s = _
    rw [execDrainLimit, hd]
    exact whenever_true hreset (beq_iff_eq.mpr hst)
  · have hends := flushed_ends (s.reach d) f .drainLimit
    rw [flushedRecord, heldUnits_eq] at hends
    exact hends

/-! ## Before admission (R15, R157) -/

/-- CLOSE and ABANDON do the same of a flow that is not admitted yet. -/
theorem exec_undecided {c : Instr} {flow : Byte} {f : FlowId} {s : State} (hc : c = .close flow ∨ c = .abandon flow)
    (hready : s.intakeReady = true) (hflow : flow.toNat = f.val)
    (hst : (s.flow f).state = .claimWait ∨ (s.flow f).state = .claiming ∧ (s.flow f).cancel = false) :
    exec c s = .next (s.withdrawUndecided f) := by
  rcases hc with rfl | rfl
  · rw [exec_close hready hflow, closeFlow]
    rcases hst with e | ⟨e, hcancel⟩
    · rw [e]
    · simp [e, hcancel]
  · rw [exec_abandon hready hflow, abandonFlow]
    rcases hst with e | ⟨e, hcancel⟩
    · rw [e]
    · simp [e, hcancel]

theorem withdrawFlow_eq (s : State) (f : FlowId) : s.withdrawFlow f = { s.setFlow f (s.flow f).freed with
    port := s.port.add s.stationTime (.flowClosed f .withdrawn (s.flow f).params.cls (s.flow f).params.legs
      (s.flow f).shownCounters) } := by
  have hself : (s.modFlow f Flow.freed).flow f = (s.flow f).freed := by rw [flow_modFlow, if_pos rfl]
  rw [State.withdrawFlow, State.emitClosed, hself]
  rfl

section
variable {s : State}

/-- Nothing is placed where the station is not ACTIVE or no flow waits. -/
theorem place_idle (h : s.view.station ≠ .active ∨ s.adm.claimQueue = []) : s.place = s := by
  obtain e | ⟨f, rest, hactive, -, hq, -⟩ := place_cases s
  · exact e
  · rcases h with h | h
    · exact absurd hactive h
    · rw [h] at hq
      cases hq

theorem place_next {f : FlowId} {rest : List FlowId} (hactive : s.view.station = .active) (hnone : s.adm.claiming = none)
    (hq : s.adm.claimQueue = f :: rest) : s.place = { s.setFlow f { s.flow f with state := .claiming } with
      adm := { s.adm with claimQueue := rest, claiming := some f, claimTimer := some (s.ownClock + 500000000) }
      line := { s.line with
        sendList := addClaim (s.flow f).params.legs.code (s.flow f).derived.load s.line.sendList } } := by
  rw [State.place, if_pos hactive, hnone, hq]
  rfl

/-- The CLAIM of the CLAIMING flow withdrawn while it is not on the wire, and the flow closed WITHDRAWN. -/
def withdrawn (s : State) (f : FlowId) : State :=
  { s.setFlow f (s.flow f).freed with
    adm := { s.adm with claiming := none, claimTimer := none }
    line := { s.line with sendList := s.line.sendList.filter (fun e => !e.notice.isClaim) }
    port := s.port.add s.stationTime (.flowClosed f .withdrawn (s.flow f).params.cls (s.flow f).params.legs
      (s.flow f).shownCounters) }

theorem withdrawn_eq {f : FlowId} (hwire : s.line.claimOnWire = false) :
    s.withdrawClaim.noClaim.withdrawFlow f = withdrawn s f := by
  have hline : s.line.withdrawClaim =
      { s.line with sendList := s.line.sendList.filter (fun e => !e.notice.isClaim) } := by
    rw [Line.withdrawClaim]
    exact if_neg (by rw [hwire]; exact Bool.false_ne_true)
  rw [withdrawFlow_eq, State.withdrawClaim, hline]
  rfl

theorem notWaiting {x : Flow} (h : x.state = .claiming) : x.state ≠ .claimWait := by
  rw [h]
  decide

end

/-- Settles O9: the three cases of a withdrawal, with the next placement. -/
theorem closeAndAbandonBeforeAdmission : Obligations.CloseAndAbandonBeforeAdmission := by
  intro c flow f s hc hready hflow x freed closed
  refine ⟨fun hst => ?_, fun hst hcancel hwire => ?_, fun hst hcancel hwire => ?_⟩
  · rw [exec_undecided hc hready hflow (.inl hst), State.withdrawUndecided, if_pos hst, withdrawFlow_eq]
    rfl
  · rw [exec_undecided hc hready hflow (.inr ⟨hst, hcancel⟩), State.withdrawUndecided, if_neg (notWaiting hst), if_pos hwire]
    rfl
  · have hexec : exec c s = .next (withdrawn s f).place := by
      rw [exec_undecided hc hready hflow (.inr ⟨hst, hcancel⟩), State.withdrawUndecided, if_neg (notWaiting hst),
        if_neg (by rw [hwire]; exact Bool.false_ne_true), withdrawn_eq hwire]
    refine ⟨fun hnone => ?_, fun g rest hactive hq hg => ?_⟩
    · rw [hexec, place_idle (s := withdrawn s f) hnone]
      rfl
    · have hother : (withdrawn s f).flow g = s.flow g := s.flow_setFlow_ne hg _
      rw [hexec, place_next (s := withdrawn s f) hactive rfl hq, hother]
      rfl

end Sys2Proof.Proofs.FlowEnds
end

section
/-! The Card Port: an accepted DECLARE, the queries, the refusals and the outcome queue (R6, R16, R144, R147, R154,
R160-R167). -/

namespace Sys2Proof.Proofs.CardPort

open Sys2Proof Sys2Proof.Machine Sys2Proof.Proofs.Frames Sys2Proof.Proofs.Acts Sys2Proof.Proofs.Admission
  Sys2Proof.Proofs.FlowEnds

/-! ## An accepted DECLARE (R6, R147, R154) -/

section
variable {s : State}

theorem place_busy (h : s.adm.claiming ≠ none) : s.place = s := by
  obtain e | ⟨f, rest, -, hnone, -, -⟩ := place_cases s
  · exact e
  · exact absurd hnone h

theorem refuseFlow_eq (s : State) (code : RefusedCode) (f : FlowId) : s.refuseFlow code f =
    { s.setFlow f (s.flow f).freed with port := s.port.add s.stationTime (.flowRefused f code) } := rfl

/-- A flow refused as soon as its record is written. -/
theorem refuseFlow_setFlow (s : State) (code : RefusedCode) (f : FlowId) (x : Flow) : (s.setFlow f x).refuseFlow code f =
    { s.setFlow f x.freed with port := s.port.add s.stationTime (.flowRefused f code) } := by
  rw [refuseFlow_eq, s.flow_setFlow_self, s.setFlow_setFlow]
  rfl

theorem admitFlow_eq (s : State) (f : FlowId) : s.admitFlow f = { s.setFlow f { s.flow f with state := .armed } with
    adm := s.adm.gain (s.flow f).params.legs (s.flow f).derived.load
    line := (s.admitFlow f).line
    port := s.port.add s.stationTime (.flowAdmitted f) } := by
  rw [State.admitFlow, syncLoad_eq]
  rfl

theorem admitFlow_line_of_nil {f : FlowId} (h : s.line.sendList = []) : (s.admitFlow f).line = s.line := by
  rw [State.admitFlow, State.emit_line, State.syncLoad, if_neg]
  · rfl
  · change ¬ s.line.sendList.any _ = true
    rw [h]
    exact Bool.false_ne_true

theorem fits_iff (l : Leg) (n : Nat) : s.fits l n = true ↔ s.legSum l + n ≤ admissionLimit s.straps.cap :=
  decide_eq_true_iff

/-- The capacity test of a flow that uses some of the two legs (R33). -/
theorem claimFits_iff (f : FlowId) : s.claimFits f = true ↔
    ((s.flow f).params.legs.uses .a = true → s.legSum .a + (s.flow f).derived.load ≤ admissionLimit s.straps.cap) ∧
      ((s.flow f).params.legs.uses .b = true → s.legSum .b + (s.flow f).derived.load ≤ admissionLimit s.straps.cap) := by
  rw [State.claimFits]
  cases (s.flow f).params.legs <;> simp [Legs.list, Legs.uses, fits_iff]

end

/-- Settles O7: the record is written, and the station state says what the Admission Unit does with it. -/
theorem acceptedDeclareActsByStationState : Obligations.AcceptedDeclareActsByStationState := by
  intro d f s p hready hflow hfree hp x freed queued
  have hexec : exec (.declare d) s = .next ((s.setFlow f x).handOver f) := by
    rw [Declare.exec_declare_known hready hflow, declareFlow, if_neg (not_not.mpr hfree), hp]
    rfl
  have hself : (s.setFlow f x).flow f = x := s.flow_setFlow_self f x
  rw [hexec]
  refine ⟨fun hst => ?_, fun hst hbusy => ?_, fun hst hnone hq => ?_, fun hst => ?_, fun hst => ?_, fun hst => ?_⟩ <;>
    rw [State.handOver, State.setFlow_view, hst]
  · rfl
  · exact congrArg _ (place_busy (s := queued) hbusy)
  · have hplace := place_next (s := queued) (f := f) (rest := s.adm.claimQueue) hst hnone (by
      change s.adm.claimQueue ++ [f] = f :: s.adm.claimQueue
      rw [hq]
      rfl)
    have hqueued : queued.flow f = x := hself
    rw [hqueued] at hplace
    refine (congrArg _ hplace).trans ?_
    have hset : queued.setFlow f { x with state := .claiming } =
        { s.setFlow f { x with state := .claiming } with adm := queued.adm } :=
      congrArg (fun t => { t with adm := queued.adm }) (s.setFlow_setFlow f x { x with state := .claiming })
    rw [hset]
    rfl
  · exact congrArg _ (refuseFlow_setFlow s .lineIsolated f x)
  · exact congrArg _ (refuseFlow_setFlow s .duplicateStation f x)
  · have hfits := claimFits_iff (s := s.setFlow f x) f
    rw [hself] at hfits
    change _ ↔ (p.legs.uses .a = true → s.legSum .a + p.load ≤ admissionLimit s.straps.cap) ∧
      (p.legs.uses .b = true → s.legSum .b + p.load ≤ admissionLimit s.straps.cap) at hfits
    split
    next h =>
      simp only
      rw [if_pos (hfits.mpr h)]
      have hadmit := flow_admitFlow (s.setFlow f x) f
      have hadm := admitFlow_adm_eq (s.setFlow f x) f
      have heq := admitFlow_eq (s.setFlow f x) f
      rw [hself] at hadmit hadm heq
      refine ⟨_, rfl, ?_, fun g hg => ?_, fun l => ?_, ?_, fun hnil => admitFlow_line_of_nil (s := s.setFlow f x) hnil, ?_⟩
      · rw [hadmit, if_pos rfl]
      · rw [hadmit, if_neg hg, s.flow_setFlow_ne hg]
      · rw [hadm]
        cases l
        · change (if p.legs.uses .a then s.adm.ownA + p.load else s.adm.ownA) = s.adm.ownA + _
          split <;> rfl
        · change (if p.legs.uses .b then s.adm.ownB + p.load else s.adm.ownB) = s.adm.ownB + _
          split <;> rfl
      · rw [heq]
        rfl
      · rw [heq]
        rfl
    next h =>
      simp only
      rw [if_neg (fun hf => h (hfits.mp hf))]
      exact congrArg _ (refuseFlow_setFlow s .noShare f x)

/-! ## Queries (R16, R144, R163) -/

theorem flows_toList (s : State) : s.flows.toList = allFlows.map s.flow := by
  refine List.ext_getElem (by simp [allFlows]) fun i h1 h2 => ?_
  simp [allFlows, State.flow]

theorem ownCount_eq (s : State) : s.ownCount = ((List.finRange 64).filter (fun f =>
    decide ((s.flow f).state = .armed ∨ (s.flow f).state = .running ∨ (s.flow f).state = .draining))).length := by
  have hload (x : Flow) : x.holdsLoad = decide (x.state = .armed ∨ x.state = .running ∨ x.state = .draining) := by
    cases hst : x.state <;> simp [Flow.holdsLoad, Flow.accepts, hst]
  rw [State.ownCount, flows_toList, List.filter_map, List.length_map]
  simp only [Function.comp_def, hload]
  rfl

theorem exec_queryFlow {s : State} {flow : Byte} {f : FlowId} (hready : s.intakeReady = true) (hflow : flow.toNat = f.val) :
    exec (.queryFlow flow) s = .next (s.emit (.flowReport f (s.flowReport f))) := by
  change onRecord s (s.withFlow flow codeQueryFlow (fun f => s.emit (.flowReport f (s.flowReport f)))) = _
  rw [onRecord_ready hready, s.withFlow_known hflow]

theorem legReport_eq (s : State) (l : Leg) : s.legReport l =
    if l = .b ∧ s.straps.legb = false then none
    else some { service := (s.leg l).service, phase := (s.leg l).hand.map Hand.phase, counters := (s.leg l).counters } := by
  cases l with
  | a => rfl
  | b =>
    cases h : s.straps.legb with
    | true =>
      rw [State.legReport, if_pos (show s.fitted .b = true from h)]
      rfl
    | false =>
      rw [State.legReport, if_neg (show ¬ s.fitted .b = true by rw [State.fitted, h]; exact Bool.false_ne_true)]
      rfl

/-- The milliseconds left of a drain, rounded up (R16). -/
theorem drainMs_eq (s : State) (drain : Option Nat) : divUp (s.remaining drain) 1000000 =
    match drain with
    | some d => (d - s.ownClock + 999999) / 1000000
    | none => 0 := by
  cases drain with
  | none =>
    change divUp 0 1000000 = 0
    decide
  | some d => rw [divUp, State.remaining, Nat.add_sub_assoc (by decide)]

/-- Settles O12: the reports field by field, and the queue of records of QUERY_PEERS. -/
theorem queriesReportAndChangeNothing : Obligations.QueriesReportAndChangeNothing := by
  refine ⟨fun flow f s hready hflow => ?_, fun s hready => ⟨?_, ?_⟩⟩
  · intro x used
    have hrun (slot : Slot) : (!slot.units.isEmpty) = (match slot with | .opened _ => true | _ => false) := by
      cases slot <;> rfl
    have hx : x = s.flow f := rfl
    rw [exec_queryFlow hready hflow, State.flowReport, hrun, drainMs_eq, hx]
    cases hl : (s.flow f).lock <;> rfl
  · change onRecord s (s.emit (.stationReport s.straps.stn s.stationReport)) = _
    rw [onRecord_ready hready, State.stationReport, legReport_eq, legReport_eq]
    rfl
  · change onRecord s s.reportPeers = _
    rw [onRecord_ready hready, State.reportPeers, foldl_emit_eq, ownCount_eq, List.foldl_append]
    rfl

/-! ## Refusals (R160) -/

/-- Settles O13: each refusal is the arm of its check. -/
theorem refusedDirectivesChangeNothing : Obligations.RefusedDirectivesChangeNothing := by
  refine ⟨fun s => ⟨s.intakeReady_iff, fun hheld flow leg fs ro rc bytes d c hc => ?_⟩, fun s hready => ?_⟩
  · simp only [List.mem_cons, List.not_mem_nil, or_false] at hc
    obtain rfl | rfl | rfl | rfl | rfl | rfl | rfl | rfl | rfl | rfl := hc <;> exact onRecord_held hheld
  · intro refused
    have hrefuse {t : State} {code : DirectiveCode} {subject directive : Byte} (h : t = s.refuse code subject directive) :
        onRecord s t = refused code subject directive := by
      rw [onRecord_ready hready, h]
      rfl
    refine ⟨fun body => hrefuse (by cases body <;> rfl), fun leg hleg => ?_, fun flow hflow => ?_, fun flow f hflow => ?_⟩
    · have hnone : s.legOf leg = none := by
        rw [State.legOf, if_neg (fun h => hleg (.inl h)), if_neg]
        rw [Bool.and_eq_true, decide_eq_true_iff]
        exact fun h => hleg (.inr h)
      have hwith (act : Leg → State) : s.withLeg leg act = s.refuse .badLeg leg codeLegControl := by
        rw [State.withLeg, hnone]
      exact ⟨hrefuse (hwith _), hrefuse (hwith _)⟩
    · exact ⟨hrefuse (s.withFlow_unknown hflow _ _), hrefuse (s.withFlow_unknown hflow _ _),
        hrefuse (s.withFlow_unknown hflow _ _)⟩
    · refine ⟨fun hst => ⟨?_, ?_⟩, fun hst => ?_, fun hst hcancel => ⟨?_, ?_⟩⟩
      · rw [exec_close hready hflow, closeFlow, hst]
        rfl
      · rw [exec_abandon hready hflow, abandonFlow, hst]
        rfl
      · rw [exec_close hready hflow, closeFlow, hst]
        rfl
      · rw [exec_close hready hflow, closeFlow, hst, if_pos hcancel]
        rfl
      · rw [exec_abandon hready hflow, abandonFlow, hst, if_pos hcancel]
        rfl

/-! ## The outcome queue (R165-R167) -/

/-- Only the first record that joins can carry LOST. -/
theorem marks_of_later (time : Nat) (os : List Outcome) {mark : Bool} {k : Nat} (h : mark = false ∨ 0 < k) :
    (os.zipIdx k).map (fun (o, i) => (⟨mark && i == 0, time, o⟩ : Record)) = os.map (fun o => ⟨false, time, o⟩) := by
  induction os generalizing k with
  | nil => rfl
  | cons o os ih =>
    have hmark : (mark && k == 0) = false := by
      rcases h with rfl | hk
      · rfl
      · simp [Nat.ne_of_gt hk]
    rw [List.zipIdx_cons, List.map_cons, List.map_cons, ih (.inr (Nat.succ_pos k))]
    exact congrArg (fun b => (⟨b, time, o⟩ : Record) :: _) hmark

/-- The records that join, one event's creations in order. -/
theorem foldl_add_eq (time : Nat) (os : List Outcome) (p : Port) (hp : p.outcomes.length ≤ 64) :
    os.foldl (fun x o => x.add time o) p =
      { outcomes := p.outcomes ++
          (os.take (64 - p.outcomes.length)).zipIdx.map (fun (o, i) => ⟨p.lossMark && i == 0, time, o⟩)
        lossMark := if 64 - p.outcomes.length < os.length then true else if os = [] then p.lossMark else false
        delivering := p.delivering } := by
  induction os generalizing p with
  | nil => simp
  | cons o os ih =>
    rw [List.foldl_cons]
    rcases Nat.lt_or_ge p.outcomes.length 64 with hlt | hfull
    · obtain ⟨room, hroom⟩ : ∃ room, 64 - p.outcomes.length = room + 1 := ⟨64 - p.outcomes.length - 1, by omega⟩
      have hnext : 64 - (p.outcomes ++ [(⟨p.lossMark, time, o⟩ : Record)]).length = room := by
        rw [List.length_append, List.length_singleton]
        omega
      have hjoined : ({ p with outcomes := p.outcomes ++ [⟨p.lossMark, time, o⟩], lossMark := false } :
          Port).outcomes.length ≤ 64 := by
        rw [List.length_append, List.length_singleton]
        exact hlt
      rw [p.add_joins hlt, ih _ hjoined, hnext, hroom, List.take_succ_cons, List.zipIdx_cons, List.map_cons,
        marks_of_later time _ (.inl rfl), marks_of_later time _ (.inr Nat.one_pos), List.append_assoc]
      simp
    · have hroom : 64 - p.outcomes.length = 0 := Nat.sub_eq_zero_of_le hfull
      rw [p.add_drops hfull, ih { p with lossMark := true } hp, hroom]
      cases os <;> simp

theorem attention_iff {s : State} (h : s.inReset = false) : s.attention = true ↔ s.port.outcomes ≠ [] := by
  rw [State.attention, h]
  simp

theorem add_ne_nil (p : Port) (time : Nat) (o : Outcome) : (p.add time o).outcomes ≠ [] := by
  obtain ⟨-, e⟩ | ⟨hfull, e⟩ := p.add_cases time o <;> rw [e]
  · simp
  · rintro (hnil : p.outcomes = [])
    rw [hnil] at hfull
    exact absurd hfull (by decide)

/-- Settles O14: the fold over one event's creations, and the two ends of a delivery. -/
theorem outcomesJoinAndAreDelivered : Obligations.OutcomesJoinAndAreDelivered := by
  refine ⟨fun p time os hp => ?_, fun s hreset => ⟨fun hidle hsome => ?_, fun r rest ready hdel hq => ⟨?_, ?_⟩,
    attention_iff hreset, fun o => (attention_iff (s := s.emit o) hreset).mpr (add_ne_nil _ _ _)⟩⟩
  · intro q room
    have hq : q = _ := foldl_add_eq time os p hp
    rw [hq]
    exact ⟨rfl, rfl, rfl⟩
  · exact whenever_true hreset (by simp [hidle, hsome])
  · rw [State.onOutcomeStream, hreset, hdel, hq]
    rfl
  · refine (whenever_true hreset hdel).trans ?_
    rw [Port.delivered, hq]
    rfl

end Sys2Proof.Proofs.CardPort
end

section
/-! The time port and the Release Calendar: steps, cursor moves, and the unit named to a leg (R67, R72-R84, R99-R101). -/

namespace Sys2Proof.Proofs.TimePort

open Sys2Proof Sys2Proof.Machine Sys2Proof.Proofs.Frames Sys2Proof.Proofs.Acts Sys2Proof.Proofs.Admission
  Sys2Proof.Proofs.StationTime Sys2Proof.Proofs.Binder

/-! ## Readings (R72, R73, R78) -/

section
variable {s : State} (hreset : s.inReset = false)
include hreset

theorem exec_timeReading_invalid (value : BitVec 64) :
    exec (.timeReading false value) s = .next s.clockTick.invalidReading := whenActing_acting hreset

end

/-- Settles O15: the strobe and the readings without a previous reading, and the invalid readings. -/
theorem timePortWithoutCursorMoves : Obligations.TimePortWithoutCursorMoves := by
  intro s value hreset ticked
  refine ⟨whenActing_acting hreset, fun hc hp => ?_, fun hinvalid => ?_, fun hvalid => ?_⟩
  · rw [exec_timeReading_valid hreset]
    have hread : s.clockTick.validReading value.toNat = { s.clockTick with
        time := { cursor := some (slotOf value.toNat), previous := some value.toNat, latch := false, valid := true } } := by
      have hc' : s.clockTick.time.cursor = none := hc
      rw [State.validReading, hc']
    rw [hread]
    rfl
  · rw [exec_timeReading_invalid hreset, State.invalidReading, if_neg]
    · rfl
    · change ¬ s.time.valid = true
      rw [hinvalid]
      exact Bool.false_ne_true
  · rw [exec_timeReading_invalid hreset, State.invalidReading, if_pos (show s.clockTick.time.valid = true from hvalid)]
    rfl

/-! ## One turn for each flow -/

/-- A run over different flows, whose turns each change the one flow. -/
theorem foldl_turns {turn : State → FlowId → State} {k : Flow → Flow}
    (h : ∀ s f, Alters s (turn s f) f (k (s.flow f))) {fs : List FlowId} (hfs : fs.Nodup) (s : State) (g : FlowId) :
    (fs.foldl turn s).flow g = if g ∈ fs then k (s.flow g) else s.flow g := by
  induction fs generalizing s with
  | nil => rfl
  | cons f fs ih =>
    obtain ⟨hf, hfs⟩ := List.nodup_cons.mp hfs
    rw [List.foldl_cons, ih hfs, h s f g]
    by_cases hgf : g = f
    · subst hgf
      rw [if_neg hf, if_pos rfl, if_pos List.mem_cons_self]
    · rw [if_neg hgf]
      simp only [List.mem_cons, hgf, false_or]

theorem allFlows_nodup : allFlows.Nodup := List.nodup_finRange 64

theorem mem_allFlows (f : FlowId) : f ∈ allFlows := List.mem_finRange f

/-- A turn of every flow. -/
theorem foldl_allFlows {turn : State → FlowId → State} {k : Flow → Flow}
    (h : ∀ s f, Alters s (turn s f) f (k (s.flow f))) (s : State) (g : FlowId) :
    (allFlows.foldl turn s).flow g = k (s.flow g) := by
  rw [foldl_turns h allFlows_nodup, if_pos (mem_allFlows g)]

/-! ## Steps (R67, R76, R77) -/

theorem stepFlow_eq (s : State) (f : FlowId) : s.stepFlow f = { s.setFlow f (s.flow f).stepped with
    store := (s.flow f).stepHolds.foldl Store.release s.store } := by
  rw [State.stepFlow, State.releaseAll_eq]
  rfl

theorem stepFlow_alters (s : State) (f : FlowId) : Alters s (s.stepFlow f) f (s.flow f).stepped := fun g => by
  rw [stepFlow_eq]
  exact s.flow_setFlow f g _

theorem foldl_stepFlow_rest (fs : List FlowId) (s : State) : fs.foldl State.stepFlow s =
    { s with flows := (fs.foldl State.stepFlow s).flows, store := (fs.foldl State.stepFlow s).store } := by
  induction fs generalizing s with
  | nil => rfl
  | cons f fs ih =>
    rw [List.foldl_cons, ih, stepFlow_eq]
    rfl

/-- The holds are released flow by flow, in the order of the numbers. -/
theorem foldl_stepFlow_store {fs : List FlowId} (hfs : fs.Nodup) (s : State) : (fs.foldl State.stepFlow s).store =
    (fs.flatMap (fun f => (s.flow f).stepHolds)).foldl Store.release s.store := by
  induction fs generalizing s with
  | nil => rfl
  | cons f fs ih =>
    obtain ⟨hf, hfs⟩ := List.nodup_cons.mp hfs
    have hholds : fs.flatMap (fun g => ((s.stepFlow f).flow g).stepHolds) = fs.flatMap (fun g => (s.flow g).stepHolds) := by
      refine List.flatMap_congr fun g hg => ?_
      rw [stepFlow_alters s f g, if_neg (fun he : g = f => hf (he ▸ hg))]
    rw [List.foldl_cons, ih hfs, hholds, List.flatMap_cons, List.foldl_append, stepFlow_eq]

theorem stepHolds_eq (x : Flow) : x.stepHolds = if x.lock.isSome then x.queueA ++ x.queueB else [] := by
  unfold Flow.stepHolds
  cases x.lock <;> rfl

/-- A step, whole. -/
theorem timeStep_eq (s : State) (x : Nat) (code : TimeCode) : s.timeStep x code = { s with
    time := { cursor := some (x / 32), previous := some x, latch := false, valid := true }
    flows := (s.timeStep x code).flows
    store := (allFlows.flatMap (fun f => (s.flow f).stepHolds)).foldl Store.release s.store
    port := s.port.add (32 * (x / 32)) (.timeEvent code) } := by
  have hrest := foldl_stepFlow_rest allFlows
    { s with time := { cursor := some (slotOf x), previous := some x, latch := false, valid := true } }
  have hstore := foldl_stepFlow_store allFlows_nodup
    { s with time := { cursor := some (slotOf x), previous := some x, latch := false, valid := true } }
  rw [hstore] at hrest
  exact congrArg (fun t => t.emit (.timeEvent code)) hrest

theorem timeStep_frame (s : State) (x : Nat) (code : TimeCode) : s.timeStep x code = { s with
    time := (s.timeStep x code).time, port := (s.timeStep x code).port
    flows := (s.timeStep x code).flows, store := (s.timeStep x code).store } := by
  have h := timeStep_eq s x code
  generalize s.timeStep x code = t at h ⊢
  rw [h]

theorem timeStep_store (s : State) (x : Nat) (code : TimeCode) : (s.timeStep x code).store =
    (allFlows.flatMap (fun f => (s.flow f).stepHolds)).foldl Store.release s.store := by rw [timeStep_eq]

theorem timeStep_flow (s : State) (x : Nat) (code : TimeCode) (f : FlowId) :
    (s.timeStep x code).flow f = (s.flow f).stepped := by
  rw [State.timeStep, State.flow_emit]
  exact foldl_allFlows stepFlow_alters _ f

/-- A valid reading that is a step (R74, R76). -/
theorem validReading_step {s : State} {c p x : Nat} (hc : s.time.cursor = some c) (hp : s.time.previous = some p)
    (h : s.time.valid = false ∨ s.time.latch = true ∨ x + 32 ≤ 32 * c ∨ (32 * c ≤ x ∧ p + 32768 < x)) :
    s.validReading x = s.timeStep x (if s.time.valid = false ∨ s.time.latch = true then .step else .impliedStep) := by
  by_cases he : s.time.valid = false ∨ s.time.latch = true
  · have hcond : (!s.time.valid || s.time.latch) = true := by
      rcases he with e | e <;> simp [e]
    rw [if_pos he]
    simp only [State.validReading, hc, hp, hcond, if_true]
  · obtain ⟨hvalid, hlatch⟩ := not_or.mp he
    rw [if_neg he, validReading_judged (by simpa using hvalid) (by simpa using hlatch) hc hp]
    rcases h with e | e | hbehind | ⟨hfrom, hforward⟩
    · exact absurd e hvalid
    · exact absurd e hlatch
    · exact judgeReading_behind hbehind
    · exact judgeReading_forward (Nat.not_lt.mpr hfrom) hforward

/-- Settles O17: a step is one turn for each flow, whose holds are released in the order of the numbers. -/
theorem stepClearsTheSchedule : Obligations.StepClearsTheSchedule := by
  intro s value c p hreset hc hp x explicit hstep code
  have hexec : exec (.timeReading true value) s = .next (s.clockTick.timeStep x code) := by
    rw [exec_timeReading_valid hreset]
    exact congrArg _ (validReading_step (s := s.clockTick) hc hp (or_assoc.mp hstep))
  refine ⟨_, hexec, timeStep_time _ x code, timeStep_port _ x code, fun f => ?_, ?_, ?_⟩
  · rw [timeStep_flow]
    change (s.flow f).stepped = _
    cases hl : (s.flow f).lock with
    | none => simp only [Flow.stepped, Flow.noCredit, hl]
    | some q => simp only [Flow.stepped, Flow.noCredit, Flow.count, hl, distinct, List.length_append]
  · have hholds : (fun f => (s.clockTick.flow f).stepHolds) =
        fun f => if (s.flow f).lock.isSome then (s.flow f).queueA ++ (s.flow f).queueB else [] := by
      funext f
      exact stepHolds_eq _
    rw [timeStep_store, hholds, State.clockTick_store, allFlows]
  · exact timeStep_frame s.clockTick x code

/-! ## Cursor moves (R75, R80) -/

/-- A valid reading that moves the cursor. -/
theorem moveCursor_eq (s : State) (c x : Nat) : s.moveCursor c x = { s with
    time := { s.time with cursor := some (x / 32), previous := some x }
    flows := (s.moveCursor c x).flows } := by
  have hrest (fs : List FlowId) (s : State) : fs.foldl (fun t f => t.modFlow f (fun y => y.credited c (slotOf x))) s =
      { s with flows := (fs.foldl (fun t f => t.modFlow f (fun y => y.credited c (slotOf x))) s).flows } := by
    induction fs generalizing s with
    | nil => rfl
    | cons f fs ih =>
      rw [List.foldl_cons, ih]
      rfl
  exact congrArg (fun t : State => { t with time := { t.time with cursor := some (slotOf x), previous := some x } })
    (hrest allFlows s)

theorem flow_setTime (s : State) (y : TimeState) (f : FlowId) : State.flow { s with time := y } f = s.flow f := rfl

theorem moveCursor_flow (s : State) (c x : Nat) (f : FlowId) :
    (s.moveCursor c x).flow f = (s.flow f).credited c (x / 32) := by
  have hturns : (allFlows.foldl (fun t f => t.modFlow f (fun y => y.credited c (slotOf x))) s).flow f =
      (s.flow f).credited c (slotOf x) :=
    foldl_allFlows (turn := fun t f => t.modFlow f (fun y => y.credited c (slotOf x)))
      (k := fun y => y.credited c (slotOf x)) (fun t f => alters_modFlow t f (fun y => y.credited c (slotOf x))) s f
  rw [State.moveCursor, flow_setTime]
  exact hturns

/-- Settles O18: a cursor move is one turn for each flow, which touches its credits alone. -/
theorem cursorMoveRaisesCredits : Obligations.CursorMoveRaisesCredits := by
  intro s value c p hreset hvalid hlatch hc hp x hfrom hnear hmove
  have hexec : exec (.timeReading true value) s = .next (s.clockTick.moveCursor c x) := by
    rw [exec_timeReading_valid hreset, validReading_judged (s := s.clockTick) hvalid hlatch hc hp,
      judgeReading_moving (Nat.not_lt.mpr hfrom) (Nat.not_lt.mpr hnear) (Nat.ne_of_gt hmove)]
  refine ⟨_, hexec, fun f => ?_, ?_⟩
  · rw [moveCursor_flow]
    change (s.flow f).credited c (x / 32) = _
    cases hl : (s.flow f).lock with
    | none => simp only [Flow.credited, hl]
    | some q =>
      simp only [hl]
      split
      next hst => rw [FlowRecords.credited_credit hl hst, hl]
      next hst =>
        rw [Flow.credited, hl]
        exact if_neg hst
  · exact moveCursor_eq s.clockTick c x

end Sys2Proof.Proofs.TimePort
end

section
/-! The unit named to a leg, and the open offers: when a unit enters a hand, and what its offer presents (R83, R99-R101,
R105, R106). -/

namespace Sys2Proof.Proofs.Offers

open Sys2Proof Sys2Proof.Machine Sys2Proof.Proofs.Frames Sys2Proof.Proofs.Acts Sys2Proof.Proofs.Counters
  Sys2Proof.Proofs.CellStore Sys2Proof.Proofs.Binder Sys2Proof.Proofs.LegAnswers

/-! ## The hands (R88) -/

/-- An empty hand stays empty, and one with an open offer stays as it is. -/
def Holding (x y : EgressLeg) : Prop :=
  (x.hand = none → y.hand = none) ∧ ∀ h, x.hand = some h → h.phase = .offering → y.hand = some h

theorem holding_of_hand {x y : EgressLeg} (h : y.hand = x.hand) : Holding x y :=
  ⟨fun hx => h.trans hx, fun _ hx _ => h.trans hx⟩

theorem Holding.trans {x y z : EgressLeg} (h : Holding x y) (k : Holding y z) : Holding x z :=
  ⟨fun hx => k.1 (h.1 hx), fun _ hx hp => k.2 _ (h.2 _ hx hp) hp⟩

section
variable {s t : State}

theorem hand_of_quiet (h : Quiet s t) (l : Leg) : (t.leg l).hand = (s.leg l).hand := by rw [h.same l]

theorem hand_modLeg_ne {l m : Leg} (h : m ≠ l) (g : EgressLeg → EgressLeg) : ((s.modLeg l g).leg m).hand = (s.leg m).hand := by
  rw [leg_modLeg, if_neg h]

theorem hand_modLeg (l m : Leg) {g : EgressLeg → EgressLeg} (hg : (g (s.leg l)).hand = (s.leg l).hand) :
    ((s.modLeg l g).leg m).hand = (s.leg m).hand := by
  rw [leg_modLeg]
  split
  next h => rw [hg, h]
  · rfl

theorem hand_modLegSettled (l m : Leg) {g : EgressLeg → EgressLeg} (hg : (g (s.leg l)).hand = (s.leg l).hand) :
    ((s.modLegSettled l g).leg m).hand = (s.leg m).hand := hand_modLeg l m (g := fun x => (g x).settle s.freeze) hg

theorem signalled_holding (x : EgressLeg) : Holding x x.signalled := by
  cases hx : x.hand with
  | none =>
    refine holding_of_hand ?_
    simp only [EgressLeg.signalled, hx]
  | some h =>
    cases hp : h.phase with
    | offering =>
      refine holding_of_hand ?_
      simp only [EgressLeg.signalled, hx, hp]
    | retryWait b =>
      refine ⟨fun hn => ?_, fun k hk hoff => ?_⟩
      · rw [hx] at hn
        cases hn
      · rw [hx] at hk
        cases hk
        rw [hp] at hoff
        cases hoff

theorem answer_hand_ne {l m : Leg} (h : m ≠ l) {act : Hand → Bundle → State}
    (hact : ∀ h u, ((act h u).leg m).hand = (s.leg m).hand) : ((s.answer l act).leg m).hand = (s.leg m).hand := by
  unfold State.answer
  split
  · exact hand_modLeg_ne h _
  · split
    · exact hand_modLeg_ne h _
    · split
      · exact hact _ _
      · rfl

theorem finishUnit_hand_ne {l m : Leg} (h : m ≠ l) (id : Nat) : ((s.finishUnit l id).leg m).hand = (s.leg m).hand := by
  rw [State.finishUnit, State.modLegSettled, hand_modLeg_ne h, State.leg_release]

theorem endUnit_hand_ne {l m : Leg} (hm : m ≠ l) (h : Hand) (u : Bundle) :
    ((s.endUnit l h u).leg m).hand = (s.leg m).hand := by
  rw [State.endUnit, finishUnit_hand_ne hm, hand_modLeg_ne hm, Requests.leg_countFor]

theorem takePacket_hand_ne {l m : Leg} (hm : m ≠ l) (h : Hand) (u : Bundle) :
    ((s.takePacket l h u).leg m).hand = (s.leg m).hand := by
  unfold State.takePacket
  simp only
  split
  · rw [hand_modLeg_ne hm, hand_modLeg_ne hm]
  · rw [finishUnit_hand_ne hm, hand_modLeg_ne hm, Requests.leg_countFor, hand_modLeg_ne hm]

theorem retryPacket_hand_ne {l m : Leg} (hm : m ≠ l) (h : Hand) (u : Bundle) :
    ((s.retryPacket l h u).leg m).hand = (s.leg m).hand := by
  unfold State.retryPacket
  simp only
  split
  · rw [hand_modLeg_ne hm, hand_modLeg_ne hm, Requests.leg_countFor]
  · rw [endUnit_hand_ne hm, hand_modLeg_ne hm, Requests.leg_countFor]

theorem serve_hand_ne {l m : Leg} (hm : m ≠ l) (e : Entry) (now : Nat) :
    ((s.serve l e now).leg m).hand = (s.leg m).hand := by
  have hflow (t : State) (f : FlowId) (g : Flow → Flow) : ((t.modFlow f g).leg m).hand = (t.leg m).hand := by
    rw [State.modFlow, State.leg_setFlow]
  have hsink : ((s.sinkUnit l e).leg m).hand = (s.leg m).hand := by
    rw [State.sinkUnit, State.modLegSettled, hand_modLeg_ne hm, State.leg_release, hflow]
  unfold State.serve
  split
  · rw [State.lateAtOffer, State.modLegSettled, hand_modLeg_ne hm, State.leg_release, State.countLate, hand_modLeg_ne hm,
      hflow, hflow]
  · split
    · rw [State.offerUnit, State.modLegSettled, hand_modLeg_ne hm, hflow]
    · exact hsink
    · exact hsink
    · rfl

theorem setFreeze_hand (level : Bool) (m : Leg) : ((s.setFreeze level).leg m).hand = (s.leg m).hand := by
  cases m with
  | a => rfl
  | b =>
    change (if s.straps.legb then s.legB.settle level else s.legB).hand = s.legB.hand
    split <;> rfl

theorem permitFalls_hand (l m : Leg) : ((s.permitFalls l).leg m).hand = (s.leg m).hand := by
  unfold State.permitFalls
  split
  · rw [State.leg_emit, hand_modLegSettled]
    rfl
  · rw [hand_modLeg]
    rfl

theorem permitRises_hand (l m : Leg) : ((s.permitRises l).leg m).hand = (s.leg m).hand := by
  unfold State.permitRises
  split
  · rw [State.leg_emit, hand_modLegSettled]
    rfl
  · rw [State.leg_emit, hand_modLegSettled]
    rfl
  · rw [hand_modLeg]
    rfl

theorem legOut_hand (l m : Leg) : ((s.legOut l).leg m).hand = (s.leg m).hand := by
  unfold State.legOut
  rw [State.leg_emit]
  split
  · rfl
  · rw [hand_modLegSettled]
    rfl

theorem legIn_hand (l m : Leg) : ((s.legIn l).leg m).hand = (s.leg m).hand := by
  unfold State.legIn
  rw [State.leg_emit]
  split
  · rw [hand_modLegSettled]
    split <;> rfl
  · rfl

/-- Beside the naming of an entry to the leg and the answers of its MAC, the data path leaves a hand empty or with the offer
that is open. -/
theorem holding_of_dataAct {c : Instr} (h : DataAct s c t) (m : Leg) (hname : c ≠ .calendarNamesEntry m)
    (htake : c ≠ .take m) (hretry : c ≠ .retry m) (hfault : c ≠ .fault m) : Holding (s.leg m) (t.leg m) := by
  have hclock (u : State) : Holding (u.leg m) (u.clockTick.leg m) := by
    rw [leg_clockTick]
    exact signalled_holding _
  cases h with
  | idle => exact holding_of_hand rfl
  | port c p => exact holding_of_hand (hand_of_quiet (setPort_quiet s p) m)
  | latch => exact holding_of_hand (hand_of_quiet (setTime_quiet s _) m)
  | packet => exact holding_of_hand (hand_of_quiet (judgePacket_quiet s _ _) m)
  | startDrain c f => exact holding_of_hand (hand_of_quiet (startDrain_quiet s f) m)
  | flush c f clock => exact holding_of_hand (hand_of_quiet ((setClock_quiet s clock).trans (flushFlow_quiet _ f)) m)
  | validReading c x => exact (hclock s).trans (holding_of_hand (hand_of_quiet (validReading_quiet _ x) m))
  | invalidReading => exact (hclock s).trans (holding_of_hand (hand_of_quiet (invalidReading_quiet _) m))
  | examine => exact holding_of_hand (hand_of_quiet (examineHead_quiet s _ _ _ _) m)
  | serve l e now => exact holding_of_hand (serve_hand_ne (fun hm => hname (by rw [hm])) e now)
  | take l =>
    have hm : m ≠ l := fun hm => htake (by rw [hm])
    exact holding_of_hand (answer_hand_ne hm (takePacket_hand_ne hm))
  | retry l =>
    have hm : m ≠ l := fun hm => hretry (by rw [hm])
    exact holding_of_hand (answer_hand_ne hm (retryPacket_hand_ne hm))
  | fault l =>
    have hm : m ≠ l := fun hm => hfault (by rw [hm])
    exact holding_of_hand (answer_hand_ne hm (endUnit_hand_ne hm))
  | reoffer c l h hhand hphase =>
    by_cases hm : m = l
    · subst hm
      refine ⟨fun hn => ?_, fun k hk hoff => ?_⟩
      · rw [hhand] at hn
        cases hn
      · rw [hhand] at hk
        cases hk
        rw [hphase] at hoff
        cases hoff
    · exact holding_of_hand (hand_modLeg_ne hm _)
  | permitFalls c l => exact holding_of_hand (permitFalls_hand l m)
  | permitRises c l => exact holding_of_hand (permitRises_hand l m)
  | stallRanOut c l d =>
    refine holding_of_hand ?_
    rw [State.stallRanOut, State.leg_emit, hand_modLegSettled]
    · cases m <;> rfl
    · rfl
  | setFreeze c level => exact holding_of_hand (setFreeze_hand level m)
  | legOut c l => exact holding_of_hand (legOut_hand l m)
  | legIn c l => exact holding_of_hand (legIn_hand l m)

/-- As `Holding`, but the unit in hand may be marked as detached (R10). -/
def Presenting (x y : EgressLeg) : Prop :=
  (x.hand = none → y.hand = none) ∧
    ∀ h, x.hand = some h → h.phase = .offering → ∃ d, y.hand = some { h with detached := d }

theorem Holding.presenting {x y : EgressLeg} (h : Holding x y) : Presenting x y :=
  ⟨h.1, fun k hk hp => ⟨k.detached, h.2 k hk hp⟩⟩

theorem Presenting.trans {x y z : EgressLeg} (h : Presenting x y) (k : Presenting y z) : Presenting x z := by
  refine ⟨k.1 ∘ h.1, fun hd hx hp => ?_⟩
  obtain ⟨d, hy⟩ := h.2 hd hx hp
  obtain ⟨d', hz⟩ := k.2 _ hy hp
  exact ⟨d', hz⟩

theorem presenting_of_legLike {x y : EgressLeg} (h : LegLike x y) : Presenting x y := by
  obtain rfl | ⟨hd, hx, rfl⟩ := h
  · exact (holding_of_hand rfl).presenting
  · refine ⟨fun hn => ?_, fun k hk _ => ?_⟩
    · rw [hx] at hn
      cases hn
    · rw [hx] at hk
      cases hk
      exact ⟨true, rfl⟩

/-- Only the naming of an entry to the leg, the answers of its MAC and full reset change what a hand presents. -/
theorem presenting_of_act {c : Instr} (h : Act s c t) (m : Leg) (hname : c ≠ .calendarNamesEntry m)
    (htake : c ≠ .take m) (hretry : c ≠ .retry m) (hfault : c ≠ .fault m)
    (hreset : ∀ straps a b z, c ≠ .resetEnd straps a b z) : Presenting (s.leg m) (t.leg m) := by
  have hdata {u : State} (h : DataAct s c u) : Presenting (s.leg m) (u.leg m) :=
    (holding_of_dataAct h m hname htake hretry hfault).presenting
  cases h with
  | hold => exact (holding_of_hand rfl).presenting
  | reset straps a b z => exact absurd rfl (hreset straps a b z)
  | data h => exact hdata h
  | adm h => exact presenting_of_legLike (h.step.legs m)
  | ended f reason h => exact (hdata h).trans (presenting_of_legLike ((flowToFree_adm _ f reason).legs m))

end

/-! ## A unit enters a hand (R83, R99, R101) -/

section
variable {s t : State} {l : Leg}

theorem calendarNamesEntry_next (h : exec (.calendarNamesEntry l) s = .next t) :
    t = s ∨ ∃ e now, (s.leg l).hand = none ∧ s.named l = some e ∧ t = s.serve l e now := by
  change execCalendarNamesEntry l s = .next t at h
  unfold execCalendarNamesEntry at h
  split at h
  next e now hnamed _ =>
    obtain rfl | ⟨-, hc, rfl⟩ := whenever_next h
    · exact .inl rfl
    · exact .inr ⟨e, now, Option.isNone_iff_eq_none.mp (Bool.and_eq_true_iff.mp hc).2, hnamed, rfl⟩
  · cases h
    exact .inl rfl

/-- An answer leaves an empty hand empty. -/
theorem answer_hand_none (h : (s.leg l).hand = none) (act : Hand → Bundle → State) :
    ((s.answer l act).leg l).hand = none := by
  have hidle : (s.leg l).offering = false := by rw [EgressLeg.offering, h]
  rw [answer_of_not_offering hidle, State.strayAnswer, leg_modLeg, if_pos rfl]
  exact h

theorem whenever_answer_hand_none {c : Bool} {act : Hand → Bundle → State} (h : whenever c s (s.answer l act) = .next t)
    (hnone : (s.leg l).hand = none) : (t.leg l).hand = none := by
  obtain rfl | ⟨-, -, rfl⟩ := whenever_next h
  · exact hnone
  · exact answer_hand_none hnone act

/-- Of what a leg does with the unit named to it, only the offer fills its hand. -/
theorem serve_fills {e : Entry} {now : Nat} (hnone : (s.leg l).hand = none) {h : Hand}
    (hh : ((s.serve l e now).leg l).hand = some h) : s.serve l e now = s.offerUnit l e := by
  have hlate : ((s.lateAtOffer l e).leg l).hand = none := by
    rw [State.lateAtOffer, hand_modLegSettled l l rfl, State.leg_release, State.countLate, hand_modLeg l l rfl]
    exact hnone
  have hsink : ((s.sinkUnit l e).leg l).hand = none := by
    rw [State.sinkUnit, hand_modLegSettled l l rfl, State.leg_release]
    exact hnone
  unfold State.serve at hh ⊢
  split at hh
  · rw [hlate] at hh
    cases hh
  next hin =>
    rw [if_neg hin]
    cases hs : (s.leg l).service with
    | up => rfl
    | down =>
      rw [hs] at hh
      exact absurd (hsink.symm.trans hh) nofun
    | out =>
      rw [hs] at hh
      exact absurd (hsink.symm.trans hh) nofun
    | stalled =>
      rw [hs] at hh
      exact absurd (hnone.symm.trans hh) nofun

theorem offerUnit_hand (s : State) (l : Leg) (e : Entry) :
    ((s.offerUnit l e).leg l).hand = some ⟨e.unit, 1, 0, .offering, false⟩ := by
  cases l <;> rfl

theorem offerUnit_credit (s : State) (l : Leg) (e : Entry) :
    ((s.offerUnit l e).flow e.flow).credit l = (s.flow e.flow).credit l - 1 := by
  rw [State.offerUnit, State.modLegSettled, State.modLeg, State.flow_setLeg, State.modFlow, State.flow_setFlow_self]
  exact Flow.credit_setCredit_self _ l _

/-- A command that fills an empty hand is the naming of an entry to that leg. -/
theorem named_of_filled {c : Instr} {h : Hand} (hexec : exec c s = .next t) (hnone : (s.leg l).hand = none)
    (hh : (t.leg l).hand = some h) : c = .calendarNamesEntry l := by
  by_contra hname
  have hempty : (t.leg l).hand = none := by
    by_cases htake : c = .take l
    · subst htake
      exact whenever_answer_hand_none hexec hnone
    by_cases hretry : c = .retry l
    · subst hretry
      exact whenever_answer_hand_none hexec hnone
    by_cases hfault : c = .fault l
    · subst hfault
      exact whenever_answer_hand_none hexec hnone
    by_cases hreset : ∃ straps a b z, c = .resetEnd straps a b z
    · obtain ⟨straps, a, b, z, rfl⟩ := hreset
      cases hexec
      exact leg_afterReset_hand straps a b z _ l
    · exact (presenting_of_act (act_of_exec hexec) l hname htake hretry hfault
        fun straps a b z e => hreset ⟨straps, a, b, z, e⟩).1 hnone
  rw [hempty] at hh
  cases hh

end

/-- Settles O31: only the calendar's naming of an entry fills a hand, and the entry named is eligible. -/
theorem nothingOfferedBeforeItsSlot : Obligations.NothingOfferedBeforeItsSlot := by
  intro c s t l h hexec hnone hh
  obtain rfl := named_of_filled hexec hnone hh
  obtain rfl | ⟨e, now, -, hnamed, rfl⟩ := calendarNamesEntry_next hexec
  · rw [hnone] at hh
    cases hh
  · obtain ⟨hvalid, ⟨cursor, hcursor, hslot⟩, ⟨rest, hqueue⟩, hdue, hcredit⟩ := Calendar.named_eligible s l hnamed
    have hoffer := serve_fills hnone hh
    rw [hoffer, offerUnit_hand] at hh
    cases hh
    refine ⟨rfl, hvalid, cursor, e.due, e.flow, rest, hcursor, hdue, Nat.mul_le_mul_left 32 hslot, hqueue, ?_⟩
    rw [hoffer, offerUnit_credit, Nat.sub_add_cancel hcredit]

/-! ## What an open offer presents (R101, R105, R106) -/

section
variable {s t : State} {l : Leg}

/-- A packet presented is that of an open offer. -/
theorem offer_eq_some {o : Offer} : s.offer l = some o ↔ s.inReset = false ∧ s.fitted l = true ∧
    ∃ h u bytes, (s.leg l).hand = some h ∧ h.phase = .offering ∧ s.store.find h.unit = some u ∧
      u.packets[h.index - 1]? = some bytes ∧ o = ⟨bytes, u.flow, decide (h.index < u.packets.length)⟩ := by
  unfold State.offer
  cases hr : s.inReset with
  | true => simp
  | false =>
    cases hf : s.fitted l with
    | false => simp
    | true =>
      cases hh : (s.leg l).hand with
      | none => simp
      | some h =>
        simp only [Bool.not_true, Bool.or_self, Bool.false_eq_true, if_false, true_and]
        constructor
        · intro ho
          split at ho
          next hp =>
            obtain ⟨u, hu, ho⟩ := Option.bind_eq_some_iff.mp ho
            obtain ⟨bytes, hb, rfl⟩ := Option.map_eq_some_iff.mp ho
            exact ⟨h, u, bytes, rfl, hp, hu, hb, rfl⟩
          · cases ho
        · rintro ⟨k, u, bytes, hk, hp, hu, hb, rfl⟩
          cases hk
          rw [if_pos hp, hu, Option.bind_some, hb, Option.map_some]

/-- The hand is a place beside those in which units wait to be bound. -/
theorem count_waiting_lt_places {h : Hand} (hh : (s.leg l).hand = some h) (f : FlowId) :
    (waiting (s.flow f)).count h.unit < s.places h.unit := by
  let x : Flow := { s.flow f with slot := .empty, intakeQ := [] }
  have hhand : 1 ≤ (s.setFlow f x).places h.unit := places_of_hand (l := l) (by rw [State.leg_setFlow, hh])
  have hset := places_setFlow s f x h.unit
  have hx : x.holds = [] ++ (s.flow f).queueA ++ (s.flow f).queueB := holds_eq x
  rw [hx, holds_eq, List.nil_append] at hset
  simp only [List.count_append] at hset
  omega

/-- A unit in hand does not wait to be bound. -/
theorem not_open_of_hand (hs : s.HoldersExact) {h : Hand} (hh : (s.leg l).hand = some h) : ¬ Open s h.unit := by
  have hplace : 1 ≤ s.places h.unit := places_of_hand hh
  obtain ⟨-, hunits, hheld, hwait⟩ := hs
  rintro (⟨f, hf⟩ | hnext)
  · have hone : s.places h.unit = 1 := hwait f _ hf
    have hcount := count_waiting_lt_places hh f
    have hpos : 0 < (waiting (s.flow f)).count h.unit := List.count_pos_iff.mpr hf
    omega
  · obtain ⟨u, hu, hid⟩ := hheld _ hplace
    have := (hunits u hu).1
    omega

theorem cells_of_act {c : Instr} (h : Act s c t) (hassert : c ≠ .resetAssert) (hreset : ∀ straps a b z, c ≠ .resetEnd straps a b z) :
    Cells s t := by
  cases h with
  | hold => exact absurd rfl hassert
  | reset straps a b z => exact absurd rfl (hreset straps a b z)
  | data h => exact cells_of_dataAct h
  | adm h => exact cells_of_adm h.step
  | ended f reason h => exact (cells_of_dataAct h).trans (cells_of_adm (flowToFree_adm _ f reason))

/-- The unit that a leg keeps in hand stays as it is, but for its holder count. -/
theorem unit_kept (hc : Cells s t) (hs : s.HoldersExact) {h k : Hand} {u : Bundle} (hh : (s.leg l).hand = some h)
    (hk : (t.leg l).hand = some k) (hunit : k.unit = h.unit) (hu : s.store.find h.unit = some u) :
    ∃ v, t.store.find k.unit = some v ∧ Alike u v := by
  obtain ⟨hnodup, -, hheld, -⟩ := hc.exact hs
  obtain ⟨v, hv, hid⟩ := hheld _ (places_of_hand hk)
  have hfind : t.store.find k.unit = some v := hid ▸ find_of_mem hnodup hv
  rw [hunit] at hfind ⊢
  obtain ⟨w, hw, hal⟩ := (hc.kept hs _ v hfind).resolve_right (not_open_of_hand hs hh)
  rw [hu] at hw
  cases hw
  exact ⟨v, hfind, hal⟩

end

/-- Settles O32: the offer is read off the hand and its unit, and both stay under the other commands. -/
theorem openOfferPresentsItsPacket : Obligations.OpenOfferPresentsItsPacket := by
  intro s l hreset
  refine ⟨fun hfit => by simp [State.offer, hfit], fun h u bytes hfit hh hp hu hb => ?_, fun hh => ?_,
    fun h signalled hh hp => ?_, fun c t o hs hexec ho htake hretry hfault hassert hend => ?_⟩
  · exact offer_eq_some.mpr ⟨hreset, hfit, h, u, bytes, hh, hp, hu, hb, rfl⟩
  · simp [State.offer, hh]
  · simp [State.offer, hh, hp]
  · obtain ⟨-, hfit, h, u, bytes, hh, hp, hu, hb, rfl⟩ := offer_eq_some.mp ho
    by_cases hname : c = .calendarNamesEntry l
    · subst hname
      obtain rfl | ⟨-, -, hnone, -⟩ := calendarNamesEntry_next hexec
      · exact ho
      · rw [hnone] at hh
        cases hh
    · have hact := act_of_exec hexec
      have hkeeps := hact.keeps hassert hend
      obtain ⟨d, hk⟩ := (presenting_of_act hact l hname htake hretry hfault hend).2 h hh hp
      obtain ⟨v, hv, hal⟩ := unit_kept (cells_of_act hact hassert hend) hs hh hk rfl hu
      rw [Alike] at hal
      refine offer_eq_some.mpr ⟨hkeeps.inReset.trans hreset, (Requests.fitted_congr hkeeps.straps l).trans hfit,
        _, v, bytes, hk, hp, hv, ?_⟩
      rw [hal]
      exact ⟨hb, rfl⟩

end Sys2Proof.Proofs.Offers
end

section
/-! The service of the legs: the unit named to a leg, the answers of its MAC, the permit line, the stall timer, LEG_CONTROL
and freeze (R92-R104). -/

namespace Sys2Proof.Proofs.LegService

open Sys2Proof Sys2Proof.Machine Sys2Proof.Proofs.Acts Sys2Proof.Proofs.Binder Sys2Proof.Proofs.LegAnswers

/-! ## The unit named to a leg (R99-R101) -/

section
variable {s : State} {l : Leg}

/-- An IDLE leg that may serve and has its request open is settled. -/
theorem settle_open {x : EgressLeg} {freeze : Bool} (hhand : x.hand = none) (hreq : x.request = true)
    (hfreeze : freeze = false) (hserve : x.service ≠ .stalled) : x.settle freeze = x := by
  have hopen : (x.hand.isNone && x.mayServe freeze) = x.request := by
    simp [EgressLeg.mayServe, hhand, hreq, hfreeze, hserve]
  rw [EgressLeg.settle, hopen]

/-- A naming to an IDLE leg with its request open is answered. -/
theorem exec_calendarNamesEntry {e : Entry} {now : Nat} (hreset : s.inReset = false) (hfit : s.fitted l = true)
    (hreq : (s.leg l).request = true) (hhand : (s.leg l).hand = none) (hnamed : s.named l = some e)
    (hnow : s.now? = some now) : exec (.calendarNamesEntry l) s = .next (s.serve l e now) := by
  change execCalendarNamesEntry l s = _
  rw [execCalendarNamesEntry, hnamed, hnow]
  refine whenever_true hreset ?_
  rw [Bool.and_eq_true, State.requestOpen_iff, hhand]
  exact ⟨⟨hreset, hfit, hreq⟩, rfl⟩

variable (hfreeze : s.freeze = false) (hserve : (s.leg l).service ≠ .stalled) (hreq : (s.leg l).request = true)
  (hhand : (s.leg l).hand = none)
include hfreeze hserve hreq hhand

theorem lateAtOffer_eq (e : Entry) : s.lateAtOffer l e =
    { (s.setFlow e.flow (((s.flow e.flow).setQueue l ((s.flow e.flow).queue l).tail).countOn l
        (fun c => { c with late := bump c.late }))).setLeg l { s.leg l with
          counters := { (s.leg l).counters with lateTotal := bump (s.leg l).counters.lateTotal } } with
      store := s.store.release e.unit } := by
  have hsettled := settle_open (x := { s.leg l with
    counters := { (s.leg l).counters with lateTotal := bump (s.leg l).counters.lateTotal } }) hhand hreq hfreeze hserve
  have hflow : s.lateAtOffer l e = (({ (s.setFlow e.flow (((s.flow e.flow).dropOldest l).countOn l
      (fun c => { c with late := bump c.late }))) with store := s.store.release e.unit }).setLeg l ({ s.leg l with
        counters := { (s.leg l).counters with lateTotal := bump (s.leg l).counters.lateTotal } }.settle s.freeze)) := by
    simp only [State.lateAtOffer, State.countLate, State.modFlow, State.flow_setFlow_self, State.setFlow_setFlow]
    cases l <;> rfl
  rw [hflow, hsettled]
  cases l <;> rfl

theorem sinkUnit_eq (e : Entry) : s.sinkUnit l e =
    { (s.setFlow e.flow ((((s.flow e.flow).setQueue l ((s.flow e.flow).queue l).tail).setCredit l
        ((s.flow e.flow).credit l - 1)).countOn l (fun c => { c with sink := bump c.sink }))).setLeg l { s.leg l with
          counters := { (s.leg l).counters with sinkTotal := bump (s.leg l).counters.sinkTotal } } with
      store := s.store.release e.unit } := by
  have hsettled := settle_open (x := { s.leg l with
    counters := { (s.leg l).counters with sinkTotal := bump (s.leg l).counters.sinkTotal } }) hhand hreq hfreeze hserve
  have hflow : s.sinkUnit l e = ({ (s.setFlow e.flow (((s.flow e.flow).takeOldest l).countOn l
      (fun c => { c with sink := bump c.sink }))) with store := s.store.release e.unit }).setLeg l ({ s.leg l with
        counters := { (s.leg l).counters with sinkTotal := bump (s.leg l).counters.sinkTotal } }.settle s.freeze) := by
    cases l <;> rfl
  rw [hflow, hsettled]
  cases l <;> rfl

end

theorem offerUnit_eq (s : State) (l : Leg) (e : Entry) : s.offerUnit l e =
    (s.setFlow e.flow (((s.flow e.flow).setQueue l ((s.flow e.flow).queue l).tail).setCredit l
      ((s.flow e.flow).credit l - 1))).setLeg l { s.leg l with
        hand := some { unit := e.unit, index := 1, retries := 0, phase := .offering, detached := false }
        request := false } := by
  cases l <;> rfl

/-- Settles O30: lateness first, and otherwise the leg's service state. -/
theorem namedUnitOfferedSunkOrLate : Obligations.NamedUnitOfferedSunkOrLate := by
  intro s l e now hreset hfit hfreeze hserve hreq hhand hnamed hnow x y dropped taken
  have hexec := exec_calendarNamesEntry hreset hfit hreq hhand hnamed hnow
  have hsink := sinkUnit_eq hfreeze hserve hreq hhand e
  split
  next hlate =>
    rw [hexec, State.serve, if_pos ((late_iff _ now e.due).mpr hlate), lateAtOffer_eq hfreeze hserve hreq hhand]
  next hlate =>
    have hin : ¬ (s.flow e.flow).params.late now e.due = true := fun h => hlate ((late_iff _ now e.due).mp h)
    split
    next hup =>
      have hup' : (s.leg l).service = .up := hup
      have hact : s.serve l e now = s.offerUnit l e := by rw [State.serve, if_neg hin, hup']
      rw [hexec, hact, offerUnit_eq]
    next hup =>
      have hact : s.serve l e now = s.sinkUnit l e := by
        rw [State.serve, if_neg hin]
        cases hs : (s.leg l).service with
        | up => exact absurd hs hup
        | down => rfl
        | out => rfl
        | stalled => exact absurd hs hserve
      rw [hexec, hact, hsink]

/-! ## The answers of the MAC to an open offer (R102-R104) -/

theorem answer_of_offering {s : State} {l : Leg} {h : Hand} {u : Bundle} (hhand : (s.leg l).hand = some h)
    (hphase : h.phase = .offering) (hfind : s.store.find h.unit = some u) (act : Hand → Bundle → State) :
    s.answer l act = act h u := by
  simp only [State.answer, hhand, hphase, hfind]

/-- The state with a flow's counters raised for a unit that is not detached. -/
def countedFor (s : State) (h : Hand) (u : Bundle) (l : Leg) (g : LegCounts → LegCounts) : State :=
  if h.detached then s else s.setFlow u.flow ((s.flow u.flow).countOn l g)

theorem countFor_eq (s : State) (h : Hand) (u : Bundle) (l : Leg) (g : LegCounts → LegCounts) :
    s.countFor h u l g = countedFor s h u l g := rfl

theorem countOn_countOn (x : Flow) (l : Leg) (g k : LegCounts → LegCounts) :
    (x.countOn l g).countOn l k = x.countOn l (fun c => k (g c)) := by
  cases l <;> rfl

theorem countedFor_countedFor (s : State) (h : Hand) (u : Bundle) (l : Leg) (g k : LegCounts → LegCounts) :
    countedFor (countedFor s h u l g) h u l k = countedFor s h u l (fun c => k (g c)) := by
  unfold countedFor
  split
  · rfl
  · rw [State.flow_setFlow_self, countOn_countOn, State.setFlow_setFlow]

/-- A leg changed after a flow's counters, which do not touch it. -/
theorem modLeg_countedFor (s : State) (h : Hand) (u : Bundle) (l : Leg) (g : LegCounts → LegCounts)
    (k : EgressLeg → EgressLeg) : (countedFor s h u l g).modLeg l k = (countedFor s h u l g).setLeg l (k (s.leg l)) := by
  unfold countedFor
  split
  · rfl
  · cases l <;> rfl

theorem countedFor_setLeg (s : State) (h : Hand) (u : Bundle) (l : Leg) (g : LegCounts → LegCounts) (x : EgressLeg) :
    countedFor (s.setLeg l x) h u l g = (countedFor s h u l g).setLeg l x := by
  unfold countedFor
  split
  · rfl
  · cases l <;> rfl

theorem finishUnit_setLeg (s : State) (l : Leg) (x : EgressLeg) (id : Nat) : (s.setLeg l x).finishUnit l id =
    { s.setLeg l { x with hand := none, request := !s.freeze && (x.service != .stalled) } with
      store := s.store.release id } := by
  cases l <;> rfl

theorem countedFor_store (s : State) (h : Hand) (u : Bundle) (l : Leg) (g : LegCounts → LegCounts) :
    (countedFor s h u l g).store = s.store := by
  unfold countedFor
  split <;> rfl

theorem countedFor_freeze (s : State) (h : Hand) (u : Bundle) (l : Leg) (g : LegCounts → LegCounts) :
    (countedFor s h u l g).freeze = s.freeze := by
  unfold countedFor
  split <;> rfl

/-- Settles O33: the packet is counted on the leg, and at the last one the unit is finished. -/
theorem takeMovesOnOrSends : Obligations.TakeMovesOnOrSends := by
  intro s l h u hreset hfit hhand hphase hfind y taken
  rw [exec_take_fitted hreset hfit, answer_of_offering hhand hphase hfind, State.takePacket]
  split
  · cases l <;> rfl
  · simp only [State.modLeg, countFor_eq, countedFor_setLeg, State.leg_setLeg_self, State.setLeg_setLeg,
      finishUnit_setLeg, countedFor_store, countedFor_freeze]
    rfl

theorem endUnit_eq (s : State) (l : Leg) (h : Hand) (u : Bundle) : s.endUnit l h u =
    { (countedFor s h u l (fun c => { c with fault := bump c.fault })).setLeg l { s.leg l with
        hand := none, request := !s.freeze && ((s.leg l).service != .stalled)
        counters := { (s.leg l).counters with faults := bump (s.leg l).counters.faults } } with
      store := s.store.release h.unit } := by
  rw [State.endUnit, countFor_eq, modLeg_countedFor, finishUnit_setLeg, countedFor_store, countedFor_freeze]
  rfl

/-- A unit that ends after other counts of its own. -/
theorem endUnit_counted (s : State) (l : Leg) (h : Hand) (u : Bundle) (g : LegCounts → LegCounts) (x : EgressLeg) :
    ((countedFor s h u l g).setLeg l x).endUnit l h u =
      { (countedFor s h u l (fun c => { g c with fault := bump (g c).fault })).setLeg l { x with
          hand := none, request := !s.freeze && (x.service != .stalled)
          counters := { x.counters with faults := bump x.counters.faults } } with
        store := s.store.release h.unit } := by
  rw [State.endUnit, countFor_eq, countedFor_setLeg, countedFor_countedFor, State.modLeg, State.leg_setLeg_self,
    State.setLeg_setLeg, finishUnit_setLeg, countedFor_store, countedFor_freeze]
  rfl

/-- The counts of a RETRY. -/
theorem retryPacket_eq (s : State) (l : Leg) (h : Hand) (u : Bundle) : s.retryPacket l h u =
    let s1 := (countedFor s h u l (fun c => { c with retries := bump c.retries })).setLeg l
      { s.leg l with counters := { (s.leg l).counters with retries := bump (s.leg l).counters.retries } }
    if h.retries < 3 then s1.modLeg l (fun x => x.withHand { h with retries := h.retries + 1, phase := .retryWait false })
    else s1.endUnit l h u := by
  rw [State.retryPacket, countFor_eq, modLeg_countedFor]
  rfl

/-! ### The signal of the time port (R72, R103) -/

theorem leg_congr {s t : State} (ha : t.legA = s.legA) (hb : t.legB = s.legB) (l : Leg) : t.leg l = s.leg l := by
  cases l with
  | a => exact ha
  | b => exact hb

/-- What changes the time, the flows, the units and the outcome queue leaves the legs. -/
theorem leg_of_schedule {s t : State} {time : TimeState} {flows : Vector Flow 64} {store : Store} {port : Port}
    (h : t = { s with time := time, flows := flows, store := store, port := port }) (l : Leg) : t.leg l = s.leg l := by
  subst h
  exact leg_congr rfl rfl l

theorem leg_validReading (s : State) (x : Nat) (l : Leg) : (s.validReading x).leg l = s.leg l := by
  have hstep (code : TimeCode) : (s.timeStep x code).leg l = s.leg l :=
    leg_of_schedule (TimePort.timeStep_frame s x code) l
  have hmove (c : Nat) : (s.moveCursor c x).leg l = s.leg l := leg_of_schedule (TimePort.moveCursor_eq s c x) l
  have htime (y : TimeState) : State.leg { s with time := y } l = s.leg l := leg_congr rfl rfl l
  unfold State.validReading
  split
  next c p _ _ =>
    split
    · exact hstep _
    · unfold State.judgeReading
      split
      · exact hstep _
      · split
        · exact htime _
        · split
          · exact hstep _
          · split
            · exact htime _
            · exact hmove c
  · exact htime _

theorem leg_invalidReading (s : State) (l : Leg) : s.invalidReading.leg l = s.leg l := by
  unfold State.invalidReading
  split
  · exact leg_congr rfl rfl l
  · rfl

/-- Settles O34: the fourth RETRY ends the unit as a FAULT does, and any reading signals a leg that waits. -/
theorem retriesAndFaultsOfAnOffer : Obligations.RetriesAndFaultsOfAnOffer := by
  refine ⟨fun s l h u hreset hfit hhand hphase hfind => ?_,
    fun s l h signalled hreset hfit hhand hphase => ⟨fun valid value => ?_, ?_⟩⟩
  · intro y counted ended
    have hanswer := answer_of_offering hhand hphase hfind
    refine ⟨fun hretries => ?_, fun hretries => ?_, ?_⟩
    · rw [exec_retry_fitted hreset hfit, hanswer, retryPacket_eq]
      simp only [if_pos hretries, State.modLeg, State.leg_setLeg_self, State.setLeg_setLeg]
      rfl
    · rw [exec_retry_fitted hreset hfit, hanswer, retryPacket_eq]
      simp only [if_neg (Nat.not_lt.mpr hretries)]
      rw [endUnit_counted]
      rfl
    · rw [exec_fault_fitted hreset hfit, hanswer, endUnit_eq]
      rfl
  · have hsignal : (s.leg l).signalled = { s.leg l with hand := some { h with phase := .retryWait true } } := by
      simp only [EgressLeg.signalled, hhand, hphase]
    have hclock : s.clockTick.leg l = { s.leg l with hand := some { h with phase := .retryWait true } } := by
      rw [Counters.leg_clockTick, hsignal]
    cases valid with
    | true => exact ⟨_, whenActing_acting hreset, by rw [if_pos rfl, leg_validReading, hclock]⟩
    | false => exact ⟨_, whenActing_acting hreset, (leg_invalidReading _ l).trans hclock⟩
  · rintro rfl
    change execRetryReoffer l s = _
    rw [execRetryReoffer, hhand]
    exact whenever_true hreset (by simp [hfit, hphase])

/-! ## The permit line and the stall timer (R92, R93) -/

theorem whenever_unfitted {s t : State} {l : Leg} (h : s.fitted l = false) (c : Bool) :
    whenever (s.fitted l && c) s t = .next s := whenever_false (.inr (by rw [h, Bool.false_and]))

theorem requestOpen_unfitted {s : State} {l : Leg} (h : s.fitted l = false) : s.requestOpen l = false := by
  simp [State.requestOpen, h]

theorem offer_unfitted {s : State} {l : Leg} (h : s.fitted l = false) : s.offer l = none := by
  simp [State.offer, h]

/-- No event of a leg that is not fitted has an effect (R108). -/
theorem exec_unfitted {s : State} {l : Leg} (h : s.fitted l = false) {c : Instr}
    (hc : c ∈ [.permitFall l, .permitRise l, .stallTimeout l, .take l, .retry l, .fault l, .retryReoffer l,
      .calendarNamesEntry l]) : exec c s = .next s := by
  have hanswer (t : State) : whenever (s.fitted l) s t = .next s := whenever_false (.inr h)
  simp only [List.mem_cons, List.not_mem_nil, or_false] at hc
  obtain rfl | rfl | rfl | rfl | rfl | rfl | rfl | rfl := hc
  · exact whenever_unfitted h _
  · exact whenever_unfitted h _
  · change execStallTimeout l s = .next s
    unfold execStallTimeout
    split
    · exact whenever_unfitted h _
    · rfl
  · exact hanswer _
  · exact hanswer _
  · exact hanswer _
  · change execRetryReoffer l s = .next s
    unfold execRetryReoffer
    split
    · exact whenever_unfitted h _
    · rfl
  · change execCalendarNamesEntry l s = .next s
    unfold execCalendarNamesEntry
    split
    · exact whenever_false (.inr (by rw [requestOpen_unfitted h, Bool.false_and]))
    · rfl

theorem mayServe_stalled {x : EgressLeg} (freeze : Bool) (h : x.service = .stalled) : x.mayServe freeze = false := by
  simp [EgressLeg.mayServe, h]

theorem mayServe_of_ne {x : EgressLeg} (freeze : Bool) (h : x.service ≠ .stalled) : x.mayServe freeze = !freeze := by
  simp [EgressLeg.mayServe, h]

/-- A leg that becomes STALLED has no request open. -/
theorem settle_stalled {x : EgressLeg} (freeze : Bool) (h : x.service = .stalled) :
    x.settle freeze = { x with request := false } := by
  rw [EgressLeg.settle, mayServe_stalled freeze h, Bool.and_false]

/-- A leg in another state has its request open while it is IDLE and not frozen. -/
theorem settle_of_ne {x : EgressLeg} (v : Service) (freeze : Bool) (hx : x.service = v) (hv : v ≠ .stalled) :
    x.settle freeze = { x with request := x.hand.isNone && !freeze } := by
  rw [EgressLeg.settle, mayServe_of_ne freeze (hx ▸ hv)]

theorem permitFalls_up {s : State} {l : Leg} (h : (s.leg l).service = .up) :
    s.permitFalls l = (s.modLegSettled l (fun x => { x with
      service := .stalled, permit := false, stall := some (s.ownClock + 10000000) })).emit (.legEvent l .stalled) := by
  rw [State.permitFalls, h]
  rfl

theorem permitFalls_out {s : State} {l : Leg} (h : (s.leg l).service = .out) :
    s.permitFalls l = s.setLeg l { s.leg l with permit := false } := by
  rw [State.permitFalls, h]
  rfl

theorem permitRises_out {s : State} {l : Leg} (h : (s.leg l).service = .out) :
    s.permitRises l = s.setLeg l { s.leg l with permit := true } := by
  rw [State.permitRises, h]
  rfl

theorem permitRises_up {s : State} {l : Leg} (h : (s.leg l).service = .stalled ∨ (s.leg l).service = .down) :
    s.permitRises l = (s.modLegSettled l (fun x => { x with service := .up, permit := true, stall := none })).emit
      (.legEvent l .up) := by
  rcases h with h | h <;> rw [State.permitRises, h]

/-- Settles O36: each row is one change of the leg, settled and reported. -/
theorem serviceFollowsPermitAndTimer : Obligations.ServiceFollowsPermitAndTimer := by
  refine ⟨fun s => ⟨rfl, Iff.rfl, fun hb => ⟨offer_unfitted (l := .b) hb, requestOpen_unfitted (l := .b) hb,
      fun c hc => exec_unfitted (s := s) (l := .b) hb hc⟩⟩,
    fun s l hreset hfit => ?_⟩
  intro y report open'
  have hfall (hp : y.permit = true) : exec (.permitFall l) s = .next (s.permitFalls l) :=
    whenever_true hreset (Bool.and_eq_true_iff.mpr ⟨hfit, hp⟩)
  have hrise (hp : y.permit = false) : exec (.permitRise l) s = .next (s.permitRises l) :=
    whenever_true hreset (Bool.and_eq_true_iff.mpr ⟨hfit, (Bool.not_eq_true' _).mpr hp⟩)
  refine ⟨fun hp hs => ?_, fun hp hs => ?_, fun hp hs => ?_, fun hp hs => ?_, fun deadline hs hd => ?_⟩
  · rw [hfall hp, permitFalls_up hs, State.modLegSettled_eq, settle_stalled _ rfl]
    cases l <;> rfl
  · rw [hfall hp, permitFalls_out hs]
  · rw [hrise hp, permitRises_up hs, State.modLegSettled_eq, settle_of_ne .up _ rfl (by decide)]
    cases l <;> rfl
  · rw [hrise hp, permitRises_out hs]
  · have hexec : exec (.stallTimeout l) s = .next (s.stallRanOut l deadline) := by
      change execStallTimeout l s = _
      rw [execStallTimeout, hd]
      exact whenever_true hreset (Bool.and_eq_true_iff.mpr ⟨hfit, beq_iff_eq.mpr hs⟩)
    rw [hexec, State.stallRanOut, State.modLegSettled_eq, settle_of_ne .down _ rfl (by decide)]
    cases l <;> rfl

/-! ## LEG_CONTROL (R94, R95) -/

theorem withLeg_known {s : State} {leg : Byte} {l : Leg}
    (h : leg = 1#8 ∧ l = .a ∨ leg = 2#8 ∧ l = .b ∧ s.straps.legb = true) (act : Leg → State) :
    s.withLeg leg act = act l := by
  obtain ⟨rfl, rfl⟩ | ⟨rfl, rfl, hb⟩ := h
  · rfl
  · have hleg : s.legOf 2#8 = some .b := by simp [State.legOf, hb]
    rw [State.withLeg, hleg]

/-- Settles O37: OUT and IN change the leg where it is not OUT or IN already, and are answered either way. -/
theorem legControlOutAndIn : Obligations.LegControlOutAndIn := by
  intro leg l s hready hleg y report open'
  have hout : exec (.legControlOut leg) s = .next (s.legOut l) :=
    (onRecord_ready hready).trans (congrArg _ (withLeg_known hleg _))
  have hin : exec (.legControlIn leg) s = .next (s.legIn l) :=
    (onRecord_ready hready).trans (congrArg _ (withLeg_known hleg _))
  refine ⟨fun hs => ?_, fun hs => ?_, fun hs => ?_, fun hs hp => ?_, fun hs hp => ?_⟩
  · rw [hout, State.legOut, if_neg hs, State.modLegSettled_eq, settle_of_ne .out _ rfl (by decide)]
    cases l <;> rfl
  · rw [hout, State.legOut, if_pos hs]
    rfl
  · rw [hin, State.legIn, if_neg hs]
    rfl
  · rw [hin, State.legIn, if_pos hs, State.modLegSettled_eq, if_pos hp, settle_of_ne .up _ rfl (by decide)]
    cases l <;> rfl
  · rw [hin, State.legIn, if_pos hs, State.modLegSettled_eq, if_neg (Bool.not_eq_true _ ▸ hp), settle_stalled _ rfl]
    cases l <;> rfl

/-! ## Freeze (R97) -/

theorem leg_setFreeze {s : State} (level : Bool) {l : Leg} (h : s.fitted l = true) :
    (s.setFreeze level).leg l = (s.leg l).settle level := by
  cases l with
  | a => rfl
  | b => exact if_pos h

theorem legB_setFreeze {s : State} (level : Bool) (h : s.fitted .b = false) : (s.setFreeze level).legB = s.legB :=
  if_neg (Bool.not_eq_true _ ▸ h)

theorem settle_frozen (x : EgressLeg) : x.settle true = { x with request := false } := by
  rw [EgressLeg.settle, EgressLeg.mayServe, Bool.not_true, Bool.false_and, Bool.and_false]

/-- Settles O38: a level of the freeze line settles the fitted legs. -/
theorem freezeSuspendsServing : Obligations.FreezeSuspendsServing := by
  intro s hreset
  refine ⟨⟨_, whenActing_acting hreset, fun l hl => ?_, legB_setFreeze true, rfl⟩,
    ⟨_, whenActing_acting hreset, fun l hl => leg_setFreeze false hl, legB_setFreeze false, rfl⟩⟩
  rw [leg_setFreeze true hl, settle_frozen]

end Sys2Proof.Proofs.LegService
end

section
/-! Intake: the tests of an arriving packet, and the units and runs that accepted packets form (R36-R49). -/

namespace Sys2Proof.Proofs.Intake

open Sys2Proof Sys2Proof.Machine Sys2Proof.Proofs.Frames

theorem accepts_iff (x : Flow) : x.accepts = true ↔ x.state = .armed ∨ x.state = .running := by
  simp [Flow.accepts]

theorem cellsOf_eq (bytes : List Byte) : cellsOf bytes = (bytes.length + 255) / 256 := by
  change (bytes.length + 256 - 1) / 256 = _
  rw [Nat.add_sub_assoc (by decide)]

/-! ## The run in the slot (R46, R47, R49) -/

section
variable {s : State} {f : FlowId}

theorem breakRun_opened {run : Nat} (h : (s.flow f).slot = .opened run) : s.breakRun f =
    { s.setFlow f { s.flow f with
        slot := .empty
        counters := { (s.flow f).counters with runMalformed := bump (s.flow f).counters.runMalformed } } with
      store := s.store.release run } := by
  rw [State.breakRun, h]
  rfl

theorem breakRun_refused {n : Nat} (h : (s.flow f).slot = .refused n) :
    s.breakRun f = s.setFlow f { s.flow f with slot := .empty } := by
  rw [State.breakRun, h]
  rfl

theorem breakRun_empty (h : (s.flow f).slot = .empty) : s.breakRun f = s := by
  rw [State.breakRun, h]

theorem breakRun_emptied (h : (s.flow f).slot = .empty) : s.breakRun f = s.setFlow f { s.flow f with slot := .empty } := by
  rw [breakRun_empty h, ← h]
  exact (State.setFlow_flow s f).symm

/-! ## The tests of a packet (R36, R37) -/

variable {flow : Byte} {p : Packet}

theorem judgePacket_badLength (h : ¬ (64 ≤ p.bytes.length ∧ p.bytes.length ≤ 2048)) :
    s.judgePacket flow p = s.badLengthPacket := by
  have hw : within p.bytes.length Config.minPacket Config.maxPacket = false :=
    (Declare.within_eq _ _ _).trans (decide_eq_false h)
  rw [State.judgePacket, hw]
  rfl

section
variable (hmin : 64 ≤ p.bytes.length) (hmax : p.bytes.length ≤ 2048)
include hmin hmax

theorem judgePacket_length : s.judgePacket flow p =
    match flowOf flow with
    | none => s.strayPacket
    | some f =>
      if !(s.flow f).accepts then s.strayPacket
      else if (s.flow f).params.smax < p.bytes.length then s.oversizePacket f
      else s.acceptPacket f p := by
  have hw : within p.bytes.length Config.minPacket Config.maxPacket = true :=
    (Declare.within_eq _ _ _).trans (decide_eq_true ⟨hmin, hmax⟩)
  rw [State.judgePacket, hw]
  rfl

theorem judgePacket_stray (h : ∀ f : FlowId, flow.toNat = f.val → (s.flow f).accepts = false) :
    s.judgePacket flow p = s.strayPacket := by
  rw [judgePacket_length hmin hmax]
  cases hf : flowOf flow with
  | none => rfl
  | some f =>
    have hflow : flow.toNat = f.val := by
      unfold flowOf at hf
      split at hf
      · cases hf
        rfl
      · cases hf
    simp only [h f hflow, Bool.not_false, if_true]

variable (hflow : flow.toNat = f.val) (hacc : (s.flow f).accepts = true)
include hflow hacc

theorem judgePacket_oversize (h : (s.flow f).params.smax < p.bytes.length) :
    s.judgePacket flow p = s.oversizePacket f := by
  rw [judgePacket_length hmin hmax, flowOf_known hflow]
  simp only [hacc, Bool.not_true, Bool.false_eq_true, if_false, h, if_true]

theorem judgePacket_accepted (h : p.bytes.length ≤ (s.flow f).params.smax) :
    s.judgePacket flow p = s.acceptPacket f p := by
  rw [judgePacket_length hmin hmax, flowOf_known hflow]
  simp only [hacc, Bool.not_true, Bool.false_eq_true, if_false, Nat.not_lt.mpr h]

end

theorem oversizePacket_eq (s : State) (f : FlowId) : s.oversizePacket f =
    { s.setFlow f { s.flow f with
        slot := .empty
        counters := { (s.flow f).counters with
          oversize := bump (s.flow f).counters.oversize
          runMalformed := match (s.flow f).slot with
            | .opened _ => bump (s.flow f).counters.runMalformed
            | _ => (s.flow f).counters.runMalformed } } with
      store := match (s.flow f).slot with
        | .opened u => s.store.release u
        | _ => s.store } := by
  cases h : (s.flow f).slot with
  | empty => rw [State.oversizePacket, breakRun_emptied h, State.modFlow, State.flow_setFlow_self, State.setFlow_setFlow]; rfl
  | opened run =>
    have hopen : s.oversizePacket f = { (s.setFlow f { s.flow f with
        slot := .empty
        counters := { (s.flow f).counters with
          runMalformed := bump (s.flow f).counters.runMalformed } }).modFlow f
          (fun x => x.count (fun c => { c with oversize := bump c.oversize })) with store := s.store.release run } := by
      rw [State.oversizePacket, breakRun_opened h]
      rfl
    rw [hopen, State.modFlow, State.flow_setFlow_self, State.setFlow_setFlow]
    rfl
  | refused n => rw [State.oversizePacket, breakRun_refused h, State.modFlow, State.flow_setFlow_self, State.setFlow_setFlow]; rfl

end

/-- Settles O39: the tests in their order, and the run that an oversize packet ends. -/
theorem packetsJudgedInOrder : Obligations.PacketsJudgedInOrder := by
  intro flow frameStart runOpen runClose bytes s hready arrival accepts
  refine ⟨fun hlength => ?_, fun hmin hmax hstray => ?_, fun f hmin hmax hflow hacc hsize => ?_⟩
  · exact (onRecord_ready hready).trans (congrArg _ (judgePacket_badLength hlength))
  · refine (onRecord_ready hready).trans (congrArg _ (judgePacket_stray hmin hmax fun f hf => ?_))
    exact Bool.not_eq_true _ ▸ fun h => hstray f hf ((accepts_iff _).mp h)
  · refine (onRecord_ready hready).trans (congrArg _ ?_)
    exact (judgePacket_oversize hmin hmax hflow ((accepts_iff _).mpr hacc) hsize).trans (oversizePacket_eq s f)

/-! ## Accepted packets (R41-R48) -/

section
variable {s : State} {f : FlowId} {p : Packet}

/-- A RUN_OPEN ends the run in the slot and opens its own. -/
theorem acceptPacket_open (hu : (s.flow f).params.u ≠ 1) (ho : p.runOpen = true) :
    s.acceptPacket f p = (s.breakRun f).openRun f p p.runClose := by
  have hruns : ((s.flow f).params.u != 1) = true := bne_iff_ne.mpr hu
  simp only [State.acceptPacket, hruns, ho, Bool.and_self, Bool.true_and, if_true]

/-- At an EMPTY slot a packet without a RUN_OPEN that counts is a unit of its own. -/
theorem acceptPacket_single (hslot : (s.flow f).slot = .empty) (h : ¬ (p.runOpen = true ∧ (s.flow f).params.u ≠ 1)) :
    s.acceptPacket f p = s.singleUnit f p := by
  have hopen : ((s.flow f).params.u != 1 && p.runOpen) = false := by
    rw [Bool.and_comm, ← Bool.not_eq_true, Bool.and_eq_true, bne_iff_ne]
    exact h
  simp only [State.acceptPacket, hopen, hslot, Bool.false_eq_true, if_false]

theorem acceptPacket_join {run : Nat} (hslot : (s.flow f).slot = .opened run) (hu : (s.flow f).params.u ≠ 1)
    (ho : p.runOpen = false) : s.acceptPacket f p = s.joinRun f p p.runClose run := by
  have hruns : ((s.flow f).params.u != 1) = true := bne_iff_ne.mpr hu
  simp only [State.acceptPacket, hruns, ho, hslot, Bool.and_false, Bool.true_and, Bool.false_eq_true, if_false]

theorem acceptPacket_refused {n : Nat} (hslot : (s.flow f).slot = .refused n) (hu : (s.flow f).params.u ≠ 1)
    (ho : p.runOpen = false) : s.acceptPacket f p = s.refusedPacket f p.runClose n := by
  have hruns : ((s.flow f).params.u != 1) = true := bne_iff_ne.mpr hu
  simp only [State.acceptPacket, hruns, ho, hslot, Bool.and_false, Bool.true_and, Bool.false_eq_true, if_false]

/-- The cap at an EMPTY slot. -/
theorem capAllows_empty (hslot : (s.flow f).slot = .empty) :
    (s.flow f).capAllows = true ↔ (s.flow f).intakeQ.length < (s.flow f).params.qmax := by
  rw [FlowRecords.capAllows_iff, hslot]
  rfl

theorem startUnit_eq (s : State) (f : FlowId) (p : Packet) (g : Flow → Nat → Flow) : s.startUnit f p g =
    { s.setFlow f (g (s.flow f) s.store.nextId) with
      store := { s.store with
        freeCells := s.store.freeCells - (p.bytes.length + 255) / 256
        units := s.store.units ++ [{ id := s.store.nextId, flow := f, packets := [p.bytes], frameStart := p.frameStart,
                                     holders := 1, due := none }]
        nextId := s.store.nextId + 1 } } := by
  rw [← cellsOf_eq]
  rfl

/-- A packet within the cap at an EMPTY slot begins a unit, which waits in the slot where it opens a run. -/
theorem acceptPacket_begins (hslot : (s.flow f).slot = .empty)
    (hcap : (s.flow f).intakeQ.length < (s.flow f).params.qmax) : s.acceptPacket f p =
      s.startUnit f p (fun x id => if p.runOpen ∧ ¬ p.runClose ∧ (s.flow f).params.u ≠ 1 then { x with slot := .opened id }
        else { x with intakeQ := x.intakeQ ++ [id] }) := by
  have hallows := (capAllows_empty hslot).mpr hcap
  by_cases h : p.runOpen = true ∧ (s.flow f).params.u ≠ 1
  · rw [acceptPacket_open h.2 h.1, breakRun_empty hslot, State.openRun, if_pos hallows]
    cases p.runClose <;> simp [h]
  · rw [acceptPacket_single hslot h, State.singleUnit, if_pos hallows]
    have hcond : ¬ (p.runOpen = true ∧ ¬ p.runClose = true ∧ (s.flow f).params.u ≠ 1) := fun hr => h ⟨hr.1, hr.2.2⟩
    simp only [if_neg hcond]

/-- A packet that the cap refuses at an EMPTY slot. -/
theorem acceptPacket_over (hslot : (s.flow f).slot = .empty)
    (hcap : (s.flow f).params.qmax ≤ (s.flow f).intakeQ.length) : s.acceptPacket f p =
      s.modFlow f (fun x => { x.overIntake with
        slot := if p.runOpen ∧ ¬ p.runClose ∧ (s.flow f).params.u ≠ 1 then .refused 1 else .empty }) := by
  have hrefuses : ¬ (s.flow f).capAllows = true := fun h => Nat.not_lt.mpr hcap ((capAllows_empty hslot).mp h)
  by_cases h : p.runOpen = true ∧ (s.flow f).params.u ≠ 1
  · rw [acceptPacket_open h.2 h.1, breakRun_empty hslot, State.openRun, if_neg hrefuses]
    cases p.runClose <;> simp [h]
  · rw [acceptPacket_single hslot h, State.singleUnit, if_neg hrefuses]
    have hcond : ¬ (p.runOpen = true ∧ ¬ p.runClose = true ∧ (s.flow f).params.u ≠ 1) := fun hr => h ⟨hr.1, hr.2.2⟩
    rw [if_neg hcond, State.modFlow, State.modFlow, ← hslot]
    rfl

variable {run : Nat} {u : Bundle} (hfind : s.store.find run = some u)
include hfind

theorem packetCount_eq : s.packetCount run = u.packets.length := by rw [State.packetCount, hfind]

theorem joinRun_eq (h : u.packets.length < (s.flow f).params.u) (closes : Bool) : s.joinRun f p closes run =
    { (if closes then s.setFlow f { s.flow f with slot := .empty, intakeQ := (s.flow f).intakeQ ++ [run] } else s) with
      store := { s.store with
        freeCells := s.store.freeCells - (p.bytes.length + 255) / 256
        units := updateFirst (fun v => v.id == run) (fun v => { v with packets := v.packets ++ [p.bytes] })
          s.store.units } } := by
  have hjoin : s.store.join run p.bytes = { s.store with
      freeCells := s.store.freeCells - (p.bytes.length + 255) / 256
      units := updateFirst (fun v => v.id == run) (fun v => { v with packets := v.packets ++ [p.bytes] })
        s.store.units } := by
    rw [Store.join, hfind, cellsOf_eq]
  rw [State.joinRun, packetCount_eq hfind, if_pos h, hjoin]
  cases closes <;> rfl

theorem joinRun_beyond (h : (s.flow f).params.u ≤ u.packets.length) (closes : Bool) :
    s.joinRun f p closes run = s.breakRun f := by
  rw [State.joinRun, packetCount_eq hfind, if_neg (Nat.not_lt.mpr h)]

end

section
variable {s : State} {f : FlowId} {flow : Byte} {frameStart runOpen runClose : Bool} {bytes : List Byte}
  (hready : s.intakeReady = true) (hflow : flow.toNat = f.val)
  (hacc : (s.flow f).state = .armed ∨ (s.flow f).state = .running) (hmin : 64 ≤ bytes.length)
  (hmax : bytes.length ≤ 2048) (hsize : bytes.length ≤ (s.flow f).params.smax)
include hready hflow hacc hmin hmax hsize

theorem exec_accepted : exec (.packetArrival flow frameStart runOpen runClose bytes) s =
    .next (s.acceptPacket f ⟨frameStart, runOpen, runClose, bytes⟩) :=
  (onRecord_ready hready).trans
    (congrArg _ (judgePacket_accepted hmin hmax hflow ((accepts_iff _).mpr hacc) hsize))

/-- A RUN_OPEN is taken as it is after the run in the slot ended. -/
theorem exec_runOpen (hu : (s.flow f).params.u ≠ 1) :
    exec (.packetArrival flow frameStart true runClose bytes) s =
      exec (.packetArrival flow frameStart true runClose bytes) (s.breakRun f) := by
  have hparams : ((s.breakRun f).flow f).params = (s.flow f).params := (breakRun_data s f).flows f |>.params
  have hbroken : (s.breakRun f).intakeReady = true := by
    rw [State.intakeReady_iff] at hready ⊢
    obtain ⟨hreset, hcells⟩ := hready
    exact ⟨(breakRun_data s f).inReset.trans hreset, hcells.trans (CellStore.breakRun_freeCells s f)⟩
  have hacc' : ((s.breakRun f).flow f).state = .armed ∨ ((s.breakRun f).flow f).state = .running := by
    rw [← accepts_iff, FlowRecords.breakRun_accepts, accepts_iff]
    exact hacc
  rw [exec_accepted hready hflow hacc hmin hmax hsize,
    exec_accepted hbroken hflow hacc' hmin hmax (hparams ▸ hsize), acceptPacket_open hu rfl,
    acceptPacket_open (hparams ▸ hu) rfl, breakRun_empty (FlowRecords.breakRun_slot f)]

end

/-- Settles O40: the slot's state and RUN_OPEN decide, and the cap at an EMPTY slot. -/
theorem packetsFormUnitsAndRuns : Obligations.PacketsFormUnitsAndRuns := by
  refine ⟨fun flow f frameStart runOpen runClose bytes s hready hflow hacc hmin hmax hsize => ?_,
    fun flow f frameStart runOpen runClose bytes s hready hflow hacc hmin hmax hsize => ?_⟩
  · intro x arrival cells id started
    have hexec := exec_accepted (frameStart := frameStart) (runOpen := runOpen) (runClose := runClose) hready hflow hacc
      hmin hmax hsize
    refine ⟨fun hslot hcap => ?_, fun run u hslot hfind hu hopen hlen => ?_⟩
    · refine hexec.trans (congrArg _ ?_)
      rw [acceptPacket_begins hslot hcap, startUnit_eq]
      dsimp only
      split <;> rfl
    · refine hexec.trans (congrArg _ ?_)
      rw [acceptPacket_join hslot hu hopen, joinRun_eq hfind hlen]
  · intro x arrival counted broken
    have hexec : arrival s = .next (s.acceptPacket f ⟨frameStart, runOpen, runClose, bytes⟩) :=
      exec_accepted hready hflow hacc hmin hmax hsize
    refine ⟨fun hslot hcap => ?_, fun n hslot hopen hu => ?_, fun run u hslot hfind hu hopen hlen => ?_,
      fun hopen hu => ⟨fun run hslot => ?_, fun n hslot => ?_⟩⟩
    · refine hexec.trans (congrArg _ ?_)
      rw [acceptPacket_over hslot hcap]
      rfl
    · refine hexec.trans (congrArg _ ?_)
      rw [acceptPacket_refused hslot hu hopen, State.refusedPacket]
      simp only [Bool.or_eq_true, decide_eq_true_eq]
      rfl
    · refine hexec.trans (congrArg _ ?_)
      rw [acceptPacket_join hslot hu hopen, joinRun_beyond hfind hlen, breakRun_opened hslot]
    · subst hopen
      exact breakRun_opened hslot ▸ exec_runOpen hready hflow hacc hmin hmax hsize hu
    · subst hopen
      exact breakRun_refused hslot ▸ exec_runOpen hready hflow hacc hmin hmax hsize hu

end Sys2Proof.Proofs.Intake
end

section
/-! The peer line: starts, the ends of the own notices, and the framing of characters (R111-R121, R127). -/

namespace Sys2Proof.Proofs.PeerLine

open Sys2Proof Sys2Proof.Machine Sys2Proof.Proofs.Frames Sys2Proof.Proofs.Acts Sys2Proof.Proofs.FlowEnds

section
variable {s : State}

theorem onLine_iff : s.onLine = true ↔ s.view.station ≠ .solo := by simp [State.onLine]

theorem onLine_solo (h : s.view.station = .solo) : s.onLine = false := by simp [State.onLine, h]

theorem setReceiver_self {r : Receiver} (h : s.line.receiver = r) : s.setReceiver r = s := by
  rw [← h]
  rfl

/-- A receiver that collects no notice is in HUNT on the free wire. -/
theorem wireFree_hunt (h : s.line.receiver = .waitFree ∨ s.line.receiver = .hunt) : s.wireFree = s.setReceiver .hunt := by
  rcases h with h | h
  · rw [State.wireFree, h]
  · rw [setReceiver_self h, State.wireFree, h]

theorem wireFree_inNotice {cs : List Byte} (h : s.line.receiver = .inNotice cs) :
    s.wireFree = (s.setReceiver .hunt).formatError := by
  rw [State.wireFree, h]

/-! ## Starts (R112, R117, R127) -/

theorem bits_eq (x : FreePoint) : x.bits = match x with | .normal => 12 | .later => 16 := by cases x <;> rfl

theorem mayStart_silent (h : ¬ (s.view.station = .listenIn ∨ s.view.station = .active)) (n : Nat) :
    s.mayStart n = false := by
  rw [← Bool.not_eq_true, mayStart_iff, speaks_iff]
  exact fun hs => h hs.1

/-- A station that does not speak starts nothing. -/
theorem exec_start_silent (h : ¬ (s.view.station = .listenIn ∨ s.view.station = .active)) (n : Nat) :
    exec (.noticeStart n) s = .next s ∧ exec (.breakStart n) s = .next s := by
  have hstart := mayStart_silent h n
  exact ⟨whenever_false (.inr (by rw [hstart]; rfl)), whenever_false (.inr (by rw [hstart]; rfl))⟩

theorem whenActing_same (s : State) : whenActing s s = .next s := by
  cases h : s.inReset with
  | true => exact whenActing_reset h
  | false => exact whenActing_acting h

/-- In SOLO no event of the line has an effect (R127). -/
theorem exec_solo (hsolo : s.view.station = .solo) (n : Nat) (value : Byte) (mark : Bool) {c : Instr}
    (hc : c ∈ [.noticeStart n, .breakStart n, .characterReceived value mark, .noticeReceived value,
      .unknownHeader value, .framingError, .wireFree, .breakComplete mark, .breakHeard, .stuckLine, .wireRestored]) :
    exec c s = .next s := by
  have hline := onLine_solo hsolo
  have hsilent := exec_start_silent (s := s) (by rw [hsolo]; decide) n
  have hchar (m : Bool) : whenActing s (s.takeCharacter value m) = .next s := by
    rw [takeCharacter_solo hline]
    exact whenActing_same s
  have hoff {b : Bool} (t : State) (h : b = false) : whenever b s t = .next s := whenever_false (.inr h)
  simp only [List.mem_cons, List.not_mem_nil, or_false] at hc
  obtain rfl | rfl | rfl | rfl | rfl | rfl | rfl | rfl | rfl | rfl | rfl := hc
  · exact hsilent.1
  · exact hsilent.2
  · exact hchar mark
  · exact hchar false
  · exact hchar true
  · exact hoff _ (by simp [hline])
  · exact hoff _ (by simp [hline])
  · exact hoff _ (by simp [hsolo])
  · exact hoff _ (by simp [hline])
  · exact hoff _ hline
  · exact hoff _ (by simp [hsolo])

end

/-- Settles O41: a start needs a station that speaks and its free point, and the pending break goes first. -/
theorem startsWaitForTheFreePoint : Obligations.StartsWaitForTheFreePoint := by
  refine ⟨fun s n hreset hst hsend hdrive hrecv => ?_, fun s n hst => exec_start_silent ?_ n,
    fun s n value mark hsolo => ⟨fun c hc => exec_solo hsolo n value mark hc, fun hsend => ?_⟩⟩
  · intro free
    have hfree : free = s.line.freePoint.bits := (bits_eq _).symm
    have hwire := wireFree_hunt hrecv.symm
    refine ⟨fun hlt => ?_, fun hle hbreak => ?_, fun e es hle hbreak hlist => ?_⟩
    · have hearly : s.mayStart n = false := by
        rw [← Bool.not_eq_true, mayStart_iff]
        rintro ⟨-, -, -, hle⟩
        omega
      exact ⟨whenever_false (.inr (by rw [hearly]; rfl)), whenever_false (.inr (by rw [hearly]; rfl))⟩
    · have hmay := (mayStart_iff s n).mpr ⟨(speaks_iff _).mpr hst, hsend, hdrive, hfree ▸ hle⟩
      refine ⟨whenever_false (.inr (by simp [hbreak])), ?_⟩
      refine (whenever_true hreset (by rw [hmay, hbreak]; rfl)).trans ?_
      rw [hwire]
      rfl
    · have hmay := (mayStart_iff s n).mpr ⟨(speaks_iff _).mpr hst, hsend, hdrive, hfree ▸ hle⟩
      refine (whenever_true hreset (by rw [hmay, hbreak, hlist]; rfl)).trans ?_
      have hlist' : (s.setReceiver .hunt).line.sendList = e :: es := hlist
      rw [State.startNotice, hwire, State.modLine, hlist']
      rfl
  · rcases hst with h | h <;> rw [h] <;> decide
  · change execArbitrationLoss s = _ ∧ execNoticeComplete s = _
    rw [execArbitrationLoss, execNoticeComplete, hsend]
    exact ⟨rfl, rfl⟩

/-! ## The own notice leaves the wire (R115, R118, R119) -/

section
variable {before after : List SendEntry} {e : SendEntry} (hwire : e.onWire = true)
  (hoff : ∀ d ∈ before ++ after, d.onWire = false)
include hwire hoff

/-- Only the entry on the wire has its marks cleared. -/
theorem leave_append : (before ++ e :: after).map (fun d => if d.onWire then { d with onWire := false, changed := false } else d) =
    before ++ { e with onWire := false, changed := false } :: after := by
  have hself (ds : List SendEntry) (h : ∀ d ∈ ds, d.onWire = false) :
      ds.map (fun d => if d.onWire then { d with onWire := false, changed := false } else d) = ds := by
    refine (List.map_congr_left fun d hd => ?_).trans (List.map_id ds)
    rw [h d hd]
    rfl
  rw [List.map_append, List.map_cons, hself before fun d hd => hoff d (List.mem_append_left _ hd),
    hself after fun d hd => hoff d (List.mem_append_right _ hd), hwire, if_pos rfl]

end

section
variable {s : State}

/-- A CLAIM whose flow does not carry the cancel mark stays on the list (R149). -/
theorem claimLeftWire_kept (h : ∀ f, s.adm.claiming = some f → (s.flow f).cancel = false) : s.claimLeftWire = s := by
  cases hf : s.adm.claiming with
  | none => rw [State.claimLeftWire, hf]
  | some f =>
    have hcancel := h f hf
    simp only [State.claimLeftWire, hf, hcancel, Bool.false_eq_true, if_false]

variable {n : Notice} (hsend : s.line.sending = some n) (hreset : s.inReset = false)
include hsend hreset

theorem exec_arbitrationLoss : exec .arbitrationLoss s = .next (s.loseArbitration n) := by
  change execArbitrationLoss s = _
  rw [execArbitrationLoss, hsend]
  exact whenActing_acting hreset

theorem exec_noticeComplete : exec .noticeComplete s = .next (s.completeNotice n) := by
  change execNoticeComplete s = _
  rw [execNoticeComplete, hsend]
  exact whenActing_acting hreset

end

/-- The line once the own notice lost arbitration, its entry pending with its whole content (R118). -/
def lostLine (x : Line) (list : List SendEntry) : Line :=
  { x with
    sending := none, sendList := list, freePoint := .normal
    bodyLoss := !(match x.receiver with
      | .inNotice _ => false
      | _ => true)
    counters := { x.counters with losses := bump x.counters.losses } }

/-- The line once the own notice completed (R119). -/
def completedLine (x : Line) (list : List SendEntry) : Line :=
  { x with
    sending := none, freePoint := .later, receiver := .hunt, bodyLoss := false, bits := ⟨0, 0⟩, sendList := list
    counters := { x.counters with noticesSent := bump x.counters.noticesSent } }

theorem loseArbitration_eq (s : State) (n : Notice) : s.loseArbitration n =
    if n.isClaim then State.claimLeftWire { s with line := lostLine s.line s.line.leaveWire.sendList }
    else { s with line := lostLine s.line s.line.leaveWire.sendList } := rfl

theorem completeNotice_eq (s : State) (n : Notice) : s.completeNotice n =
    if n.isClaim then State.claimCompleted { s with line := completedLine s.line (completeEntry n s.line.sendList) }
    else { s with line := completedLine s.line (completeEntry n s.line.sendList) } := rfl

/-- Settles O42: a loss clears the marks of the entry, and a completion takes it off or leaves what changed. -/
theorem ownNoticesLeaveTheWire : Obligations.OwnNoticesLeaveTheWire := by
  intro s n before e after hreset hsend hlist hwire hoff inHeader
  refine ⟨fun hcancel => ?_, fun hclaim => ?_⟩
  · have hleft : s.line.leaveWire.sendList = before ++ { e with onWire := false, changed := false } :: after := by
      rw [← leave_append hwire hoff, ← hlist]
      rfl
    rw [exec_arbitrationLoss hsend hreset, loseArbitration_eq, hleft]
    split
    next hclaim => exact congrArg _ (claimLeftWire_kept (hcancel hclaim))
    · rfl
  · have hleft := SendList.completeEntry_append n after (fun d hd => hoff d (List.mem_append_left _ hd)) hwire
    rw [exec_noticeComplete hsend hreset, completeNotice_eq, hclaim, hlist, hleft]
    rfl

/-! ## Characters (R120, R121) -/

/-- The line with the receiver and the counters as given after a character or a framing error. -/
def lineAt (s : State) (r : Receiver) (k : LineCounters) : State :=
  { s with line := { s.line with
    receiver := r, counters := k, freePoint := .normal, bodyLoss := false, bits := ⟨0, 0⟩ } }

/-- One format error more. -/
def formatCounted (k : LineCounters) : LineCounters := { k with formatErrors := bump k.formatErrors }

theorem setReceiver_lineAt (s : State) (r q : Receiver) (k : LineCounters) :
    (lineAt s r k).setReceiver q = lineAt s q k := rfl

theorem formatError_lineAt (s : State) (r : Receiver) (k : LineCounters) :
    (lineAt s r k).formatError = lineAt s r (formatCounted k) := rfl

/-- The kind codes of R113. -/
def Known (value : Byte) : Prop := value.toNat / 16 = 2 ∨ value.toNat / 16 = 5 ∨ value.toNat / 16 = 9

theorem noticeLength_known {value : Byte} (h : Known value) :
    noticeLength value = some (if value.toNat / 16 = 9 then 9 else 6) := by
  unfold noticeLength
  obtain h | h | h := h <;> rw [h] <;> rfl

theorem noticeLength_unknown {value : Byte} (h : ¬ Known value) : noticeLength value = none := by
  unfold noticeLength
  split
  next h2 => exact absurd (.inl h2) h
  next h5 => exact absurd (.inr (.inl h5)) h
  next h9 => exact absurd (.inr (.inr h9)) h
  · rfl

section
variable {s : State} {r : Receiver} {k : LineCounters} {value : Byte}

theorem takeHeader_known (h : Known value) : (lineAt s r k).takeHeader value = lineAt s (.inNotice [value]) k := by
  rw [State.takeHeader, noticeLength_known h]
  rfl

theorem takeHeader_unknown (h : ¬ Known value) :
    (lineAt s r k).takeHeader value = lineAt s .hunt (formatCounted k) := by
  rw [State.takeHeader, noticeLength_unknown h]
  rfl

/-- A stop bit without a loss inside its character. -/
theorem atStopBit_calm (h : s.line.bodyLoss = false) : atStopBit s = lineAt s s.line.receiver s.line.counters := by
  rw [atStopBit, h]
  rfl

variable {header : Byte} {cs : List Byte} {length : Nat}

theorem addCharacter_eq (h : noticeLength header = some length) : s.addCharacter (header :: cs) value =
    if cs.length + 2 < length then s.setReceiver (.inNotice (header :: cs ++ [value]))
    else if s.line.sending.isSome then s.setReceiver .hunt
    else (s.setReceiver .hunt).judgeNotice (header :: cs ++ [value]) := by
  have hlen : (header :: cs ++ [value]).length = cs.length + 2 := by simp
  have hhead : (header :: cs ++ [value]).headD 0#8 = header := rfl
  simp only [State.addCharacter, hlen, hhead, h]

/-- A mark-0 character before the notice's length. -/
theorem addCharacter_short (h : noticeLength header = some length) (hlen : cs.length + 2 < length) :
    s.addCharacter (header :: cs) value = s.setReceiver (.inNotice (header :: cs ++ [value])) := by
  rw [addCharacter_eq h, if_pos hlen]

/-- The last character of the notice that the station sends itself. -/
theorem addCharacter_own (h : noticeLength header = some length) (hlen : cs.length + 2 = length)
    (hsend : s.line.sending ≠ none) : s.addCharacter (header :: cs) value = s.setReceiver .hunt := by
  rw [addCharacter_eq h, if_neg (by omega), if_pos (Option.isSome_iff_ne_none.mpr hsend)]

/-- The last character of another notice. -/
theorem addCharacter_full (h : noticeLength header = some length) (hlen : cs.length + 2 = length)
    (hsend : s.line.sending = none) :
    s.addCharacter (header :: cs) value = (s.setReceiver .hunt).judgeNotice (header :: cs ++ [value]) := by
  rw [addCharacter_eq h, if_neg (by omega), if_neg (by simp [hsend])]

end

/-- Settles O44: each character by the receiver's state and its mark, and the two ends of framing. -/
theorem charactersAreFramed : Obligations.CharactersAreFramed := by
  intro s value hreset hstation
  have hline := onLine_iff.mpr hstation
  intro lined freed format format2 known quiet
  have hchar (mark : Bool) : exec (.characterReceived value mark) s = .next (s.takeCharacter value mark) :=
    whenActing_acting hreset
  have hnotice : exec (.noticeReceived value) s = .next (s.takeCharacter value false) := whenActing_acting hreset
  have hunknown : exec (.unknownHeader value) s = .next (s.takeCharacter value true) := whenActing_acting hreset
  refine ⟨fun hr mark => ?_, fun hr hloss => ?_, fun h cs hr hkind hloss => ?_, fun hq hst => ⟨fun hr => ?_, fun cs hr => ?_⟩,
    fun hq hr => ?_, fun hr => ?_, fun hq => ?_, fun hst => ?_⟩
  · rw [hchar, hnotice, hunknown, takeCharacter_waitFree hline hr, takeCharacter_waitFree hline hr,
      takeCharacter_waitFree hline hr]
    exact ⟨rfl, rfl, rfl⟩
  · have hstop := atStopBit_calm hloss
    rw [hr] at hstop
    rw [hchar, hchar, hnotice, hunknown, takeCharacter_hunt_body hline hr, takeCharacter_hunt_header hline hr, hstop]
    refine ⟨rfl, rfl, fun hk => ?_, fun hk => ?_⟩
    · rw [takeHeader_known hk]
      rfl
    · rw [takeHeader_unknown hk]
      exact ⟨rfl, rfl⟩
  · have hlength := noticeLength_known hkind
    have hstop := atStopBit_calm hloss
    rw [hchar, hchar, hnotice, hunknown, takeCharacter_body hline hr, takeCharacter_header hline hr, hstop]
    refine ⟨fun hlen => ?_, fun hsend hlen => ?_, fun hk => ?_, fun hk => ?_⟩
    · rw [addCharacter_short hlength hlen]
      exact ⟨rfl, rfl⟩
    · rw [addCharacter_own hlength hlen (s := lineAt s _ _) hsend]
      exact ⟨rfl, rfl⟩
    · rw [setReceiver_lineAt, formatError_lineAt, takeHeader_known hk]
      rfl
    · rw [setReceiver_lineAt, formatError_lineAt, takeHeader_unknown hk]
      exact ⟨rfl, rfl⟩
  · refine (whenever_true hreset (by simp [hline, hst, hq.1, hq.2])).trans ?_
    rw [wireFree_hunt hr]
    rfl
  · refine (whenever_true hreset (by simp [hline, hst, hq.1, hq.2])).trans ?_
    rw [wireFree_inNotice hr]
    rfl
  · exact whenever_true hreset (by simp [hline, hr, hq.1, hq.2])
  · exact whenever_false (.inr (by simp [hr]))
  · have hbusy : (s.line.sending.isNone && !s.line.driving) = false := by
      rw [← Bool.not_eq_true, Bool.and_eq_true, Option.isNone_iff_eq_none, Bool.not_eq_true']
      exact hq
    refine ⟨whenever_false (.inr ?_), whenever_false (.inr ?_)⟩
    · rw [Bool.and_assoc, hbusy, Bool.and_false]
    · rw [Bool.and_assoc, Bool.and_comm (!s.line.driving), hbusy, Bool.and_false]
  · exact whenever_false (.inr (by simp [hst]))

end Sys2Proof.Proofs.PeerLine
end

section
/-! The end of the own claim: its completion, its loss, its timer, and a break that abandons it (R116, R123, R124, R137,
R148-R152, R157). -/

namespace Sys2Proof.Proofs.Claims

open Sys2Proof Sys2Proof.Machine Sys2Proof.Proofs.Frames Sys2Proof.Proofs.Acts Sys2Proof.Proofs.Admission
  Sys2Proof.Proofs.FlowEnds Sys2Proof.Proofs.CardPort Sys2Proof.Proofs.PeerLine

/-! ## Placement after the end of a claim (R148, R157) -/

/-- The oldest of the flows that wait placed on a state u, with the record that the flow had in s. -/
def placedOn (s : State) (clock : Nat) (u : State) : State :=
  match s.adm.claimQueue with
  | [] => u
  | g :: rest => { u.setFlow g { s.flow g with state := .claiming } with
      adm := { u.adm with claimQueue := rest, claiming := some g, claimTimer := some (clock + 500000000) }
      line := { u.line with
        sendList := addClaim (s.flow g).params.legs.code (s.flow g).derived.load u.line.sendList } }

theorem place_ended {s u : State} {f : FlowId} (hf : f ∉ s.adm.claimQueue) (hactive : u.view.station = .active)
    (hnone : u.adm.claiming = none) (hqueue : u.adm.claimQueue = s.adm.claimQueue)
    (hflows : ∀ g, g ≠ f → u.flow g = s.flow g) : u.place = placedOn s u.ownClock u := by
  cases hq : s.adm.claimQueue with
  | nil =>
    simp only [placedOn, hq]
    exact place_idle (.inr (hqueue.trans hq))
  | cons g rest =>
    have hg : g ≠ f := fun e => hf (by rw [hq, e]; exact List.mem_cons_self)
    simp only [placedOn, hq]
    rw [place_next hactive hnone (hqueue.trans hq), hflows g hg]

/-- The state once the claim of a flow ended, with the flow FREE: what the end leaves of the line, and its record. -/
def endedWith (s : State) (f : FlowId) (line : Line) (o : Outcome) : State :=
  { s.setFlow f (s.flow f).freed with
    line := line
    adm := { s.adm with claiming := none, claimTimer := none }
    port := s.port.add s.stationTime o }

/-- The record of a flow that ends WITHDRAWN (R15, R17). -/
def closedRecord (f : FlowId) (x : Flow) : Outcome :=
  .flowClosed f .withdrawn x.params.cls x.params.legs x.shownCounters

section
variable (s : State) (f : FlowId) (line : Line)

theorem withdrawFlow_ended : (State.noClaim { s with line := line }).withdrawFlow f =
    endedWith s f line (closedRecord f (s.flow f)) := by
  rw [withdrawFlow_eq]
  rfl

theorem refuseFlow_ended (code : RefusedCode) : (State.noClaim { s with line := line }).refuseFlow code f =
    endedWith s f line (.flowRefused f code) := by
  rw [refuseFlow_eq]
  rfl

variable {s f line}

theorem place_endedWith {o : Outcome} (hf : f ∉ s.adm.claimQueue) (hactive : s.view.station = .active) :
    (endedWith s f line o).place = placedOn s s.ownClock (endedWith s f line o) :=
  place_ended hf hactive rfl rfl fun _ hg => s.flow_setFlow_ne hg _

end

/-! ## The claim timer (R116, R152) -/

theorem withdrawClaim_eq (x : Line) : x.withdrawClaim = { x with
    sendList := x.sendList.filter (fun e => !e.notice.isClaim)
    sending := if x.claimOnWire then none else x.sending
    freePoint := if x.claimOnWire then .normal else x.freePoint } := by
  unfold Line.withdrawClaim
  cases x.claimOnWire <;> rfl

theorem claimTimedOut_eq (s : State) (f : FlowId) : s.claimTimedOut f = (endedWith s f s.line.withdrawClaim
    (if (s.flow f).cancel then closedRecord f (s.flow f) else .flowRefused f .claimTimeout)).place := by
  rw [State.claimTimedOut]
  cases (s.flow f).cancel with
  | true => exact congrArg State.place (withdrawFlow_ended s f s.line.withdrawClaim)
  | false => exact congrArg State.place (refuseFlow_ended s f s.line.withdrawClaim .claimTimeout)

/-- Settles O52: the CLAIM is withdrawn, its flow ends, and the next is placed. -/
theorem claimTimeoutWithdraws : Obligations.ClaimTimeoutWithdraws := by
  intro s f deadline lastStopBit hreset hclaiming htimer hqueue y clock placed
  have hexec : exec (.claimTimeout lastStopBit) s = .next
      (if s.line.claimOnWire && lastStopBit then s.reach deadline else (s.reach deadline).claimTimedOut f) := by
    change execClaimTimeout lastStopBit s = _
    rw [execClaimTimeout, hclaiming, htimer]
    exact whenActing_acting hreset
  split
  next hlast =>
    rw [hexec, if_pos (Bool.and_eq_true_iff.mpr hlast)]
    rfl
  next hlast =>
    rw [hexec, if_neg (fun h => hlast (Bool.and_eq_true_iff.mp h))]
    have hplaced (line : Line) (o : Outcome) : (endedWith (s.reach deadline) f line o).place =
        placed (endedWith (s.reach deadline) f line o) := by
      by_cases hactive : s.view.station = .active
      · exact (place_endedWith (s := s.reach deadline) hqueue hactive).trans (if_pos hactive).symm
      · exact (place_idle (s := endedWith (s.reach deadline) f line o) (.inl hactive)).trans (if_neg hactive).symm
    rw [claimTimedOut_eq, hplaced, State.reach, withdrawClaim_eq]
    rfl

/-! ## The completion of the own CLAIM (R33, R137, R150, R151) -/

theorem ownCount_eq_filter (s : State) : s.ownCount = (allFlows.filter (fun g => (s.flow g).holdsLoad)).length := by
  rw [State.ownCount, flows_toList, List.filter_map, List.length_map]
  rfl

/-- The number of flows that hold load, a flow f being admitted. -/
def countWith (s : State) (f : FlowId) : Nat :=
  (allFlows.filter (fun g => decide (g = f) || (s.flow g).holdsLoad)).length

theorem ownCount_armed (s : State) (f : FlowId) (adm : Admission) :
    (State.modFlow { s with adm := adm } f (fun x => { x with state := .armed })).ownCount = countWith s f := by
  rw [ownCount_eq_filter, countWith]
  refine congrArg _ (List.filter_congr fun g _ => ?_)
  rw [flow_modFlow]
  by_cases hg : g = f
  · rw [if_pos hg, decide_eq_true hg]
    rfl
  · rw [if_neg hg, decide_eq_false hg]
    rfl

/-- The send list once a flow's load joined the own entry: a pending LOAD is brought up to date (R137). -/
def syncedList (s : State) (f : FlowId) (adm : Admission) (list : List SendEntry) : List SendEntry :=
  if list.any (fun e => e.notice.isLoad) then addLoad adm.ownA adm.ownB (countWith s f) list else list

theorem admitFlow_whole (s : State) (f : FlowId) : s.admitFlow f = { s.setFlow f { s.flow f with state := .armed } with
    adm := s.adm.gain (s.flow f).params.legs (s.flow f).derived.load
    line := { s.line with
      sendList := syncedList s f (s.adm.gain (s.flow f).params.legs (s.flow f).derived.load) s.line.sendList }
    port := s.port.add s.stationTime (.flowAdmitted f) } := by
  rw [State.admitFlow, syncLoad_eq, ownCount_armed]
  rfl

section
variable {s : State} {f : FlowId} (hf : s.adm.claiming = some f)
include hf

theorem claimCompleted_admits (hcancel : (s.flow f).cancel = false) (hfits : s.claimFits f = true) :
    s.claimCompleted = (s.noClaim.admitFlow f).place := by
  simp only [State.claimCompleted, hf, hcancel, hfits, Bool.false_eq_true, if_false, if_true]

theorem claimCompleted_refuses (hcancel : (s.flow f).cancel = false) (hfits : s.claimFits f = false) :
    s.claimCompleted = (endedWith s f s.line (.flowRefused f .noShare)).place := by
  simp only [State.claimCompleted, hf, hcancel, hfits, Bool.false_eq_true, if_false]
  exact congrArg State.place (refuseFlow_ended s f s.line .noShare)

/-- A cancelled claim that stood is given back by a YIELD (R151). -/
theorem claimCompleted_yields (hcancel : (s.flow f).cancel = true) (hfits : s.claimFits f = true)
    (hactive : s.view.station = .active) : s.claimCompleted = (endedWith s f { s.line with
      sendList := addYield (s.flow f).params.legs.code (s.flow f).derived.load s.line.sendList }
        (closedRecord f (s.flow f))).place := by
  have hyield : s.noClaim.queueYield (s.flow f).params.legs (s.flow f).derived.load =
      State.noClaim { s with line := { s.line with
        sendList := addYield (s.flow f).params.legs.code (s.flow f).derived.load s.line.sendList } } := by
    rw [queueYield_eq, if_pos (.inr hactive)]
    rfl
  simp only [State.claimCompleted, hf, hcancel, hfits, if_true]
  rw [hyield]
  exact congrArg State.place (withdrawFlow_ended s f _)

theorem claimCompleted_withdraws (hcancel : (s.flow f).cancel = true) (hfits : s.claimFits f = false) :
    s.claimCompleted = (endedWith s f s.line (closedRecord f (s.flow f))).place := by
  simp only [State.claimCompleted, hf, hcancel, hfits, Bool.false_eq_true, if_false, if_true]
  exact congrArg State.place (withdrawFlow_ended s f s.line)

theorem claimLeftWire_cancelled (h : (s.flow f).cancel = true) :
    s.claimLeftWire = (endedWith s f s.line.withdrawClaim (closedRecord f (s.flow f))).place := by
  simp only [State.claimLeftWire, hf, h, if_true]
  exact congrArg State.place (withdrawFlow_ended s f s.line.withdrawClaim)

end

/-- With its marks cleared no entry is on the wire. -/
theorem leave_off {before after : List SendEntry} {e : SendEntry} (hoff : ∀ d ∈ before ++ after, d.onWire = false) :
    ∀ d ∈ before ++ { e with onWire := false, changed := false } :: after, d.onWire = false := by
  intro d hd
  obtain hd | rfl | hd : d ∈ before ∨ d = { e with onWire := false, changed := false } ∨ d ∈ after := by simpa using hd
  · exact hoff d (List.mem_append_left _ hd)
  · rfl
  · exact hoff d (List.mem_append_right _ hd)

/-- Where no entry is on the wire, the withdrawal takes the CLAIM off the list and nothing else (R116). -/
theorem withdrawClaim_off {x : Line} {before after : List SendEntry} {e : SendEntry} (hlist : x.sendList = before ++ e :: after)
    (he : e.notice.isClaim = true) (hoff : ∀ d ∈ before ++ e :: after, d.onWire = false)
    (hothers : ∀ d ∈ before ++ after, d.notice.isClaim = false) :
    x.withdrawClaim = { x with sendList := before ++ after } := by
  have hwire : x.claimOnWire = false := by
    rw [Line.claimOnWire, hlist, List.any_eq_false]
    intro d hd
    rw [hoff d hd, Bool.and_false]
    exact Bool.false_ne_true
  have hkeep (ds : List SendEntry) (h : ∀ d ∈ ds, d.notice.isClaim = false) :
      ds.filter (fun d => !d.notice.isClaim) = ds :=
    List.filter_eq_self.mpr fun d hd => by rw [h d hd]; rfl
  have hfilter : x.sendList.filter (fun d => !d.notice.isClaim) = before ++ after := by
    rw [hlist, List.filter_append, List.filter_cons_of_neg (by simp [he]),
      hkeep before fun d hd => hothers d (List.mem_append_left _ hd),
      hkeep after fun d hd => hothers d (List.mem_append_right _ hd)]
  rw [withdrawClaim_eq, hwire, hfilter]
  rfl

/-- Settles O43: the completion takes the CLAIM off the list, the test decides, and the next flow is placed. -/
theorem ownClaimDecidedByTheTest : Obligations.OwnClaimDecidedByTheTest := by
  intro s f m x before e after hreset hactive hclaiming hqueue hsend hlist he hwire hchanged hothers y freed others
    completed sum stands ended withdrawn ownA ownB count placed
  let s0 : State := { s with line := completed others }
  have hoff (d : SendEntry) (hd : d ∈ before ++ after) : d.onWire = false := (hothers d hd).1
  have hcompletes : exec .noticeComplete s = .next s0.claimCompleted := by
    have hleft := SendList.completeEntry_append (.claim m x) after (fun d hd => hoff d (List.mem_append_left _ hd)) hwire
    rw [hchanged] at hleft
    rw [exec_noticeComplete hsend hreset, completeNotice_eq, hlist, hleft]
    rfl
  have hstands : s0.claimFits f = true ↔ stands := claimFits_iff (s := s0) f
  have hplaced (u : State) (hview : u.view.station = s.view.station) (hnone : u.adm.claiming = none)
      (hq : u.adm.claimQueue = s.adm.claimQueue) (hclock : u.ownClock = s.ownClock)
      (hflows : ∀ g, g ≠ f → u.flow g = s.flow g) : u.place = placed u := by
    rw [place_ended hqueue (hview.trans hactive) hnone hq hflows, hclock]
    rfl
  have hended (line : Line) (o : Outcome) : (endedWith s f line o).place = placed (endedWith s f line o) :=
    hplaced _ rfl rfl rfl rfl fun _ hg => s.flow_setFlow_ne hg _
  refine ⟨fun hcancel hfits => ?_, fun hcancel hfits => ?_, fun hcancel hfits => ?_, fun hcancel hfits => ?_,
    fun hcancel => ?_⟩
  · rw [hcompletes, claimCompleted_admits (s := s0) hclaiming hcancel (hstands.mpr hfits), admitFlow_whole]
    exact congrArg _ (hplaced _ rfl rfl rfl rfl fun _ hg => s.flow_setFlow_ne hg _)
  · rw [hcompletes, claimCompleted_refuses (s := s0) hclaiming hcancel (Bool.not_eq_true _ ▸ fun h => hfits (hstands.mp h))]
    exact congrArg _ (hended _ _)
  · rw [hcompletes, claimCompleted_yields (s := s0) hclaiming hcancel (hstands.mpr hfits) hactive]
    exact congrArg _ (hended _ _)
  · rw [hcompletes, claimCompleted_withdraws (s := s0) hclaiming hcancel (Bool.not_eq_true _ ▸ fun h => hfits (hstands.mp h))]
    exact congrArg _ (hended _ _)
  · have hleft : s.line.leaveWire.sendList = before ++ { e with onWire := false, changed := false } :: after := by
      rw [← leave_append hwire hoff, ← hlist]
      rfl
    have hclaim : Notice.isClaim e.notice = true := by rw [he]; rfl
    have hlost : exec .arbitrationLoss s =
        .next (State.claimLeftWire { s with line := lostLine s.line s.line.leaveWire.sendList }) := by
      rw [exec_arbitrationLoss hsend hreset, loseArbitration_eq]
      rfl
    rw [hlost, claimLeftWire_cancelled (s := { s with line := lostLine s.line s.line.leaveWire.sendList }) hclaiming hcancel,
      withdrawClaim_off (x := lostLine s.line s.line.leaveWire.sendList) hleft hclaim (leave_off hoff) fun d hd => (hothers d hd).2]
    refine congrArg _ ((hended _ _).trans ?_)
    have hline : ({ lostLine s.line s.line.leaveWire.sendList with sendList := before ++ after } : Line) = { s.line with
        sending := none, freePoint := .normal, sendList := before ++ after
        bodyLoss := match s.line.receiver with
          | .inNotice _ => true
          | _ => false
        counters := { s.line.counters with losses := bump s.line.counters.losses } } := by
      cases hr : s.line.receiver <;> simp only [lostLine, hr, Bool.not_true, Bool.not_false]
    rw [hline]
    rfl

/-! ## Breaks (R123, R124, R137) -/

section
variable {α : Type} {p : α → Bool} {g : α → α} (hp : ∀ x, p (g x) = true) (hg : ∀ x, g (g x) = g x)
include hp hg

theorem updateFirst_updateFirst (xs : List α) : updateFirst p g (updateFirst p g xs) = updateFirst p g xs := by
  induction xs with
  | nil => rfl
  | cons x xs ih =>
    cases hx : p x with
    | true => simp only [updateFirst, hx, if_true, hp, hg]
    | false => simp only [updateFirst, hx, Bool.false_eq_true, if_false, ih]

omit hg in
theorem any_updateFirst (xs : List α) : (updateFirst p g xs).any p = xs.any p := by
  induction xs with
  | nil => rfl
  | cons x xs ih =>
    cases hx : p x with
    | true => simp only [updateFirst, hx, if_true, List.any_cons, hp, Bool.true_or]
    | false => simp only [updateFirst, hx, Bool.false_eq_true, if_false, List.any_cons, ih]

end

theorem rank_le_load (n : Notice) : n.rank ≤ 2 := by cases n <;> simp

/-- A LOAD placed twice is placed once. -/
theorem addLoad_addLoad (a b n : Nat) (es : List SendEntry) : addLoad a b n (addLoad a b n es) = addLoad a b n es := by
  have hload (e : SendEntry) : (e.change (.load a b n)).notice.isLoad = true := rfl
  cases hany : es.any (fun e => e.notice.isLoad) with
  | true =>
    have hupdated : addLoad a b n es =
        updateFirst (fun e => e.notice.isLoad) (fun e => e.change (.load a b n)) es := if_pos hany
    have hstill := (any_updateFirst (g := fun e => e.change (.load a b n)) hload es).trans hany
    rw [hupdated, addLoad, if_pos hstill]
    exact updateFirst_updateFirst hload (fun e => by simp [SendEntry.change]) es
  | false =>
    have hnone : ∀ e ∈ es, e.notice.isLoad = false := fun e he => by simpa using List.any_eq_false.mp hany e he
    have hadded : addLoad a b n es = es ++ [⟨.load a b n, false, false⟩] := by
      have hend := SendList.insertEntry_append (.load a b n) (before := es) [] fun e _ => rank_le_load e.notice
      rw [List.append_nil] at hend
      exact (if_neg (by rw [hany]; exact Bool.false_ne_true)).trans hend
    have hthere : (es ++ [(⟨.load a b n, false, false⟩ : SendEntry)]).any (fun e => e.notice.isLoad) = true := by
      rw [List.any_append]
      exact Bool.or_true _
    rw [hadded, addLoad, if_pos hthere]
    exact updateFirst_append _ _ _ [] hnone rfl

theorem placeLoadIfSpeaking_eq (s : State) : s.placeLoadIfSpeaking = { s with line := { s.line with
    sendList := if s.view.station = .listenIn ∨ s.view.station = .active then
      addLoad s.adm.ownA s.adm.ownB s.ownCount s.line.sendList else s.line.sendList } } := by
  unfold State.placeLoadIfSpeaking
  by_cases h : s.view.station = .listenIn ∨ s.view.station = .active
  · rw [if_pos ((speaks_iff _).mpr h), if_pos h]
    rfl
  · rw [if_neg (fun hs => h ((speaks_iff _).mp hs)), if_neg h]

/-- The line once a break was heard, no notice being sent any more (R124). -/
def heardLine (x : Line) (list : List SendEntry) : Line :=
  { x with
    receiver := .waitFree, sending := none, bodyLoss := false, freePoint := .normal, bits := ⟨0, 12⟩, sendList := list
    counters := { x.counters with breaksHeard := bump x.counters.breaksHeard } }

/-- A break heard while no notice is being sent. -/
theorem heardLine_quiet {x : Line} (h : x.sending = none) (list : List SendEntry) : heardLine x list = { x with
    receiver := .waitFree, bodyLoss := false, freePoint := .normal, bits := ⟨0, 12⟩, sendList := list
    counters := { x.counters with breaksHeard := bump x.counters.breaksHeard } } := by
  rw [heardLine, ← h]

section
variable {s : State}

theorem breakNoted_quiet (h : s.line.sending = none) :
    breakNoted s = { s with line := heardLine s.line s.line.sendList } := by
  rw [heardLine_quiet h]
  rfl

theorem breakNoted_leave (s : State) :
    (breakNoted s).modLine Line.leaveWire = { s with line := heardLine s.line s.line.leaveWire.sendList } := rfl

theorem hearBreak_quiet (h : s.line.sending = none) :
    s.hearBreak = State.placeLoadIfSpeaking { s with line := heardLine s.line s.line.sendList } := by
  rw [hearBreak_eq, h, ← breakNoted_quiet h]

theorem hearBreak_sending {n : Notice} (h : s.line.sending = some n) : s.hearBreak = State.placeLoadIfSpeaking
    (if n.isClaim then State.claimLeftWire { s with line := heardLine s.line s.line.leaveWire.sendList }
      else { s with line := heardLine s.line s.line.leaveWire.sendList }) := by
  rw [hearBreak_eq, h, ← breakNoted_leave]

end

theorem completeBreak_eq (s : State) : s.completeBreak = { s with
    line := { s.line with
      driving := false, pendingBreak := false, receiver := .waitFree, freePoint := .normal, bits := ⟨0, 0⟩
      sendList := addLoad s.adm.ownA s.adm.ownB s.ownCount s.line.sendList }
    view := { s.view with listen := some (s.ownClock + 200000000) } } := rfl

theorem ownCount_congr {s t : State} (h : ∀ g, (t.flow g).holdsLoad = (s.flow g).holdsLoad) : t.ownCount = s.ownCount := by
  rw [ownCount_eq_filter, ownCount_eq_filter]
  simp only [h]

section
variable {s : State} {f : FlowId} (hclaims : s.ClaimsConsistent) (hf : s.adm.claiming = some f)
include hclaims hf

theorem notQueued_claiming : f ∉ s.adm.claimQueue := by
  obtain ⟨-, hqueue, hclaiming, -⟩ := hclaims
  intro hq
  have hwait := (hqueue f).mp hq
  rw [(hclaiming f).mp hf] at hwait
  cases hwait

theorem active_of_claiming : s.view.station = .active := by
  obtain ⟨-, -, -, -, hactive⟩ := hclaims
  exact hactive (by rw [hf]; rfl)

/-- The end of a claim and the next placement leave the number of flows that hold load. -/
theorem ownCount_placed (line : Line) (o : Outcome) (clock : Nat) :
    (placedOn s clock (endedWith s f line o)).ownCount = s.ownCount := by
  obtain ⟨-, hqueue, hclaiming, -⟩ := hclaims
  have hended (g : FlowId) : ((endedWith s f line o).flow g).holdsLoad = (s.flow g).holdsLoad := by
    refine (congrArg Flow.holdsLoad (s.flow_setFlow f g _)).trans ?_
    split
    next hg => rw [hg, freed_idle, idle_of_state (.inr (.inr ((hclaiming f).mp hf)))]
    · rfl
  refine ownCount_congr fun g => ?_
  cases hq : s.adm.claimQueue with
  | nil =>
    simp only [placedOn, hq]
    exact hended g
  | cons h rest =>
    have hwait := (hqueue h).mp (by rw [hq]; exact List.mem_cons_self)
    simp only [placedOn, hq]
    refine (congrArg Flow.holdsLoad ((endedWith s f line o).flow_setFlow h g _)).trans ?_
    split
    next hg => rw [hg, idle_of_state (.inr (.inl hwait)), idle_of_state (.inr (.inr rfl))]
    · exact hended g

end

/-- Settles O47: the own break, and a break heard with and without a notice being sent. -/
theorem breaksPlaceALoad : Obligations.BreaksPlaceALoad := by
  intro s hreset load loaded counted
  refine ⟨fun hsend hdrive hst => ?_, fun hdrive hst => ?_⟩
  · have hexec (held : Bool) : exec (.breakComplete held) s =
        .next (if held then s.hearBreak.completeBreak else s.completeBreak) :=
      whenever_true hreset (by rw [hdrive, hst]; rfl)
    constructor
    · rw [hexec]
      rfl
    · rw [hexec, if_pos rfl, hearBreak_quiet hsend, placeLoadIfSpeaking_eq, if_pos (.inl hst), completeBreak_eq]
      have htwice : load (load s.line.sendList) = load s.line.sendList := addLoad_addLoad _ _ _ _
      rw [heardLine_quiet hsend, ← htwice]
      rfl
  · intro heard
    have hexec : exec .breakHeard s = .next s.hearBreak :=
      whenever_true hreset (by rw [onLine_iff.mpr hst, hdrive]; rfl)
    refine ⟨fun hsend => ?_, fun n before e after hsend hlist hwire hoff => ⟨fun hcancel => ?_,
      fun f hclaims hclaiming hcancel hn he hothers => ?_⟩⟩
    · rw [hexec, hearBreak_quiet hsend, placeLoadIfSpeaking_eq]
      rfl
    · have hleft : s.line.leaveWire.sendList = before ++ { e with onWire := false, changed := false } :: after := by
        rw [← leave_append hwire hoff, ← hlist]
        rfl
      have hkept : (if n.isClaim then State.claimLeftWire { s with line := heardLine s.line s.line.leaveWire.sendList }
          else { s with line := heardLine s.line s.line.leaveWire.sendList }) =
          { s with line := heardLine s.line s.line.leaveWire.sendList } := by
        split
        next hn => exact claimLeftWire_kept (hcancel hn)
        · rfl
      rw [hexec, hearBreak_sending hsend, hkept, placeLoadIfSpeaking_eq, hleft]
      rfl
    · intro y closed
      have hactive := active_of_claiming hclaims hclaiming
      have hq := notQueued_claiming hclaims hclaiming
      have hleft := leave_append hwire hoff
      rw [← hlist] at hleft
      have hwithdrawn := withdrawClaim_off (x := heardLine s.line s.line.leaveWire.sendList) hleft he
        (leave_off hoff) hothers
      have hleaves : State.claimLeftWire { s with line := heardLine s.line s.line.leaveWire.sendList } =
          placedOn s s.ownClock (endedWith s f (heardLine s.line (before ++ after)) (closedRecord f y)) := by
        rw [claimLeftWire_cancelled (s := { s with line := heardLine s.line s.line.leaveWire.sendList }) hclaiming hcancel,
          hwithdrawn]
        exact place_endedWith hq hactive
      have hcount := ownCount_placed hclaims hclaiming (heardLine s.line (before ++ after)) (closedRecord f y) s.ownClock
      rw [hexec, hearBreak_sending hsend, if_pos hn, hleaves, placeLoadIfSpeaking_eq, hcount]
      cases hqueue : s.adm.claimQueue with
      | nil =>
        simp only [placedOn, hqueue]
        rw [if_pos (.inr hactive)]
        rfl
      | cons g rest =>
        simp only [placedOn, hqueue]
        rw [if_pos (.inr hactive)]
        rfl

end Sys2Proof.Proofs.Claims
end

section
/-! Notices received, duplicate detections and the stuck wire (R122, R123, R125, R126, R132-R135, R141, R142, R153). -/

namespace Sys2Proof.Proofs.Notices

open Sys2Proof Sys2Proof.Machine Sys2Proof.Proofs.Frames Sys2Proof.Proofs.Acts Sys2Proof.Proofs.Admission
  Sys2Proof.Proofs.FlowEnds Sys2Proof.Proofs.CardPort Sys2Proof.Proofs.PeerLine Sys2Proof.Proofs.Claims

/-! ## The judgement of a notice (R122) -/

/-- A notice that reads has the length that its header gives. -/
theorem readNotice_length {full : List Byte} {n : Notice} (h : readNotice full = some n) :
    full.head?.bind noticeLength = some full.length := by
  unfold readNotice at h
  split at h
  · split at h
    next hk => simp [noticeLength, hk]
    next hk => simp [noticeLength, hk]
    · cases h
  · split at h
    next hk => simp [noticeLength, hk]
    · cases h
  · cases h

section
variable {s : State} {cs : List Byte} {n : Notice}

theorem judgeNotice_check (h : cs.sum ≠ 0#8) : s.judgeNotice cs =
    s.modLine (fun x => x.count (fun c => { c with checkErrors := bump c.checkErrors })) := if_pos h

variable (hsum : cs.sum = 0#8) (hread : readNotice cs = some n)
include hsum hread

theorem judgeNotice_mask (h : n.maskOk = false) : s.judgeNotice cs = s.formatError := by
  simp only [State.judgeNotice, hsum, hread, h, ne_eq, not_true_eq_false, if_false, Bool.false_eq_true]

theorem judgeNotice_valid (h : n.maskOk = true) : s.judgeNotice cs = s.handOn (senderOf (cs.headD 0#8)) n := by
  simp only [State.judgeNotice, hsum, hread, h, ne_eq, not_true_eq_false, if_false, if_true]

end

section
variable {s : State} {cs : List Byte} {last : Byte}

/-- A notice that reads is taken whole at its last character, by a station that sends none. -/
theorem addCharacter_read {n : Notice} {i : StationId} (hsend : s.line.sending = none)
    (hread : readNotice (cs ++ [last]) = some n) (hhead : cs.head?.map senderOf = some i) :
    s.addCharacter cs last = (s.setReceiver .hunt).judgeNotice (cs ++ [last]) := by
  cases cs with
  | nil => cases hhead
  | cons header tail =>
    have hlength : noticeLength header = some (tail.length + 2) := by
      have h := readNotice_length hread
      simpa using h
    exact addCharacter_full hlength rfl hsend

theorem headD_sender {i : StationId} (hhead : cs.head?.map senderOf = some i) :
    senderOf ((cs ++ [last]).headD 0#8) = i := by
  cases cs with
  | nil => cases hhead
  | cons header tail => exact Option.some.inj hhead

/-- The line after a character, where it stands as no loss was noted. -/
theorem lineAt_calm (h : s.line.bodyLoss = false) (r : Receiver) (k : LineCounters) : lineAt s r k =
    { s with line := { s.line with receiver := r, counters := k, freePoint := .normal, bits := ⟨0, 0⟩ } } := by
  rw [lineAt, ← h]

end

/-! ## A valid notice of another station (R132-R135) -/

/-- The sender's entry, LIVE at age 0 (R132). -/
def heardEntry (old : PeerEntry) : PeerEntry :=
  if old.state = .absent then ⟨.live, 0, 0, 0, 0⟩ else { old with state := .live, age := 0 }

theorem hearPeer_eq (s : State) (i : StationId) : s.hearPeer i = { s.setPeer i (heardEntry (s.peer i)) with
    port := if (s.peer i).state = .absent then s.port.add s.stationTime (.peerEvent i .joined) else s.port } := by
  unfold State.hearPeer heardEntry
  cases h : (s.peer i).state <;> rfl

/-- The entry e of the sender with the content of its notice applied, its loads summed in the state held (R133-R135). -/
def appliedEntry (held : State) (e : PeerEntry) (n : Notice) : PeerEntry :=
  let c := capacity held.straps.cap
  match n with
  | .load a b count => { e with loadA := min a c, loadB := min b c, count := min count 64 }
  | .claim mask x =>
    if (maskNames mask .a = true → held.legSum .a + x ≤ admissionLimit held.straps.cap) ∧
       (maskNames mask .b = true → held.legSum .b + x ≤ admissionLimit held.straps.cap) then
      { e with loadA := if maskNames mask .a then min (e.loadA + x) c else e.loadA
               loadB := if maskNames mask .b then min (e.loadB + x) c else e.loadB }
    else e
  | .yield mask x =>
    { e with loadA := if maskNames mask .a then min (e.loadA - x) c else e.loadA
             loadB := if maskNames mask .b then min (e.loadB - x) c else e.loadB }

theorem setPeer_peer (s : State) (i : StationId) : s.setPeer i (s.peer i) = s := by
  have hset : s.view.peers.set i.val (s.view.peers[i.val]) = s.view.peers := by simp
  rw [State.setPeer, State.peer, hset]

theorem applyContent_eq (s : State) (i : StationId) (n : Notice) :
    s.applyContent i n = s.setPeer i (appliedEntry s (s.peer i) n) := by
  cases n with
  | load a b count => rfl
  | yield mask x => rfl
  | claim mask x =>
    have hfits : ((!maskNames mask .a || s.fits .a x) && (!maskNames mask .b || s.fits .b x)) = true ↔
        (maskNames mask .a = true → s.legSum .a + x ≤ admissionLimit s.straps.cap) ∧
          (maskNames mask .b = true → s.legSum .b + x ≤ admissionLimit s.straps.cap) := by
      rw [Bool.and_eq_true, Bool.or_eq_true, Bool.or_eq_true, Bool.not_eq_true', Bool.not_eq_true', fits_iff, fits_iff,
        ← Bool.not_eq_true, ← Bool.not_eq_true, ← imp_iff_not_or, ← imp_iff_not_or]
    simp only [State.applyContent, appliedEntry]
    by_cases h : (maskNames mask .a = true → s.legSum .a + x ≤ admissionLimit s.straps.cap) ∧
        (maskNames mask .b = true → s.legSum .b + x ≤ admissionLimit s.straps.cap)
    · rw [if_pos (hfits.mpr h), if_pos h]
      rfl
    · rw [if_neg (fun hf => h (hfits.mp hf)), if_neg h, setPeer_peer]

/-- A valid notice of another station, whole (R132-R135). -/
theorem applyNotice_eq (s : State) (i : StationId) (n : Notice) : s.applyNotice i n =
    { s.setPeer i (appliedEntry (s.setPeer i (heardEntry (s.peer i))) (heardEntry (s.peer i)) n) with
      port := if (s.peer i).state = .absent then s.port.add s.stationTime (.peerEvent i .joined) else s.port } := by
  have hself : (s.hearPeer i).peer i = heardEntry (s.peer i) := by
    rw [hearPeer_eq]
    exact s.peer_setPeer_self i _
  have hheld : appliedEntry (s.hearPeer i) (heardEntry (s.peer i)) n =
      appliedEntry (s.setPeer i (heardEntry (s.peer i))) (heardEntry (s.peer i)) n := by
    rw [hearPeer_eq]
    cases n <;> rfl
  rw [State.applyNotice, applyContent_eq, hself, hheld, hearPeer_eq]
  exact congrArg (fun t : State => { t with
    port := if (s.peer i).state = PeerState.absent then s.port.add s.stationTime (.peerEvent i .joined) else s.port })
    (s.setPeer_setPeer i (heardEntry (s.peer i)) _)

theorem handOn_other {s : State} {i : StationId} (h : i ≠ s.straps.stn) (n : Notice) :
    s.handOn i n = s.applyNotice i n := if_neg h

theorem handOn_own {s : State} {i : StationId} (h : i = s.straps.stn) (n : Notice) : s.handOn i n = s.detectDuplicate :=
  if_pos h

theorem handOn_lineAt_own (s : State) (r : Receiver) (k : LineCounters) (n : Notice) :
    (lineAt s r k).handOn s.straps.stn n = (lineAt s r k).detectDuplicate := if_pos rfl

/-- The last character of a notice that reads, at a station that sends none. -/
theorem exec_noticeReceived_read {s : State} {cs : List Byte} {last : Byte} {n : Notice} {i : StationId}
    (hreset : s.inReset = false) (hstation : s.view.station ≠ .solo) (hsend : s.line.sending = none)
    (hloss : s.line.bodyLoss = false) (hrecv : s.line.receiver = .inNotice cs) (hread : readNotice (cs ++ [last]) = some n)
    (hhead : cs.head?.map senderOf = some i) :
    exec (.noticeReceived last) s = .next ((lineAt s .hunt s.line.counters).judgeNotice (cs ++ [last])) := by
  refine (whenActing_acting hreset).trans (congrArg _ ?_)
  rw [takeCharacter_body (onLine_iff.mpr hstation) hrecv, atStopBit_calm hloss,
    addCharacter_read (s := lineAt s _ _) hsend hread hhead]
  rfl

/-- Settles O45: the judgement at the last character, and the entry of a sender that is another station. -/
theorem receivedNoticesApplied : Obligations.ReceivedNoticesApplied := by
  intro s cs last n i hreset hstation hsend hloss hrecv hread hhead judged
  have hexec := exec_noticeReceived_read hreset hstation hsend hloss hrecv hread hhead
  refine ⟨fun hsum => ?_, fun hsum hmask => ?_, fun hsum hmask hother => ?_⟩
  · rw [hexec, judgeNotice_check hsum, lineAt_calm hloss]
    rfl
  · rw [hexec, judgeNotice_mask hsum hread hmask, lineAt_calm hloss]
    rfl
  · intro old c e held applied
    rw [hexec, judgeNotice_valid hsum hread hmask, headD_sender hhead, handOn_other (s := lineAt s _ _) hother,
      applyNotice_eq, lineAt_calm hloss]
    have happlied : appliedEntry held e n = applied := by cases n <;> rfl
    rw [← happlied]
    rfl

/-! ## The end of admission on entry to DUPLICATE and ISOLATED (R141, R142, R153) -/

/-- The record of an undecided flow that ends in such an entry (log 18). -/
def endedRecord (s : State) (code : RefusedCode) (f : FlowId) : Outcome :=
  if (s.flow f).cancel = true then closedRecord f (s.flow f) else .flowRefused f code

/-- What such an entry does between s and t: the station state, the line as given, the undecided flows FREE, and the
records in order. -/
structure EndsAdmission (s t : State) (station : StationState) (line : Line) (first : Outcome) (code : RefusedCode) :
    Prop where
  view : t.view = { s.view with station := station, listen := none }
  line : t.line = line
  adm : t.adm = { s.adm with claimQueue := [], claiming := none, claimTimer := none }
  flows : ∀ f, t.flow f =
    if (s.flow f).state = .claimWait ∨ (s.flow f).state = .claiming then (s.flow f).freed else s.flow f
  port : t.port = ((first :: s.adm.claiming.toList.map (endedRecord s code) ++
    s.adm.claimQueue.map (fun f => Outcome.flowRefused f code)).foldl (fun p o => p.add s.stationTime o) s.port)
  rest : t = { s with view := t.view, line := t.line, adm := t.adm, flows := t.flows, port := t.port }

/-- The CLAIMING flow's record comes first. -/
theorem claimingRefused_port (s : State) (code : RefusedCode) : (claimingRefused s code).port =
    (s.adm.claiming.toList.map (endedRecord s code)).foldl (fun p o => p.add s.stationTime o) s.port := by
  cases hf : s.adm.claiming with
  | none => simp only [claimingRefused, hf, Option.toList_none, List.map_nil, List.foldl_nil]
  | some f =>
    simp only [claimingRefused, hf, Option.toList_some, List.map_cons, List.map_nil, List.foldl_cons, List.foldl_nil,
      endedRecord]
    split
    · rw [withdrawFlow_eq]
      rfl
    · rfl

/-- The undecided flows are refused with nothing else changed. -/
theorem refuseUndecided_whole (s : State) (code : RefusedCode) : s.refuseUndecided code = { s with
    adm := { s.adm with claimQueue := [], claiming := none, claimTimer := none }
    flows := (s.refuseUndecided code).flows
    port := (s.adm.claimQueue.map (fun f => Outcome.flowRefused f code)).foldl (fun p o => p.add s.stationTime o)
      ((s.adm.claiming.toList.map (endedRecord s code)).foldl (fun p o => p.add s.stationTime o) s.port) } := by
  have hflows : (s.refuseUndecided code).flows =
      (s.adm.claimQueue.foldl (fun t f => t.refuseFlow code f) (claimingRefused s code)).flows := by
    rw [refuseUndecided_eq]
  have hfold := (foldl_refuseFlow (claimingRefused s code) code s.adm.claimQueue).2
  have hfirst := (claimingRefused_eq s code).2
  rw [hflows, refuseUndecided_eq, hfold, ← claimingRefused_port]
  generalize claimingRefused s code = u at hfirst ⊢
  rw [hfirst]
  rfl

/-- The entry to a station state in which no claim is decided. -/
def enter (s : State) (station : StationState) (line : Line) (first : Outcome) (code : RefusedCode) : State :=
  (State.emit { s with view := { s.view with station := station, listen := none }, line := line } first).refuseUndecided code

theorem enter_ends {s : State} (hclaims : s.ClaimsConsistent) (station : StationState) (line : Line) (first : Outcome)
    (code : RefusedCode) : EndsAdmission s (enter s station line first code) station line first code := by
  obtain ⟨-, hqueue, hclaiming, -⟩ := hclaims
  have hwhole := refuseUndecided_whole
    (State.emit { s with view := { s.view with station := station, listen := none }, line := line } first) code
  have hflow (f : FlowId) : (enter s station line first code).flow f =
      if f ∈ s.adm.claimQueue ∨ s.adm.claiming = some f then (s.flow f).freed else s.flow f := flow_refuseUndecided _ code f
  refine ⟨?_, ?_, ?_, fun f => ?_, ?_, ?_⟩
  · rw [enter, hwhole]
    rfl
  · rw [enter, hwhole]
    rfl
  · rw [enter, hwhole]
    rfl
  · simp only [hflow, hqueue, hclaiming]
  · rw [enter, hwhole, List.cons_append, List.foldl_cons, List.foldl_append]
    rfl
  · change enter s station line first code = _ at hwhole
    generalize enter s station line first code = t at hwhole ⊢
    rw [hwhole]
    rfl

theorem EndsAdmission.reline {s t : State} {station : StationState} {line : Line} {first : Outcome} {code : RefusedCode}
    (h : EndsAdmission s t station line first code) (line' : Line) :
    EndsAdmission s { t with line := line' } station line' first code :=
  ⟨h.view, rfl, h.adm, h.flows, h.port, congrArg (fun u : State => { u with line := line' }) h.rest⟩

/-! ## The stuck wire (R123, R125, R141) -/

section
variable {s : State}

/-- The line of an ISOLATED station after the wire stuck. -/
def isolatedLine (x : Line) (counters : LineCounters) : Line :=
  { x with
    receiver := .waitFree, sendList := [], sending := none, pendingBreak := false, driving := false
    freePoint := .normal, bodyLoss := false, bits := ⟨0, 64⟩, counters := counters }

theorem enterIsolated_eq (x : Line) : State.enterIsolated (State.modLine { s with line := x } (fun y => { y with bits := .stuck })) =
    enter s .isolated (isolatedLine x x.counters) (.lineEvent s.straps.stn .isolated) .lineIsolated := rfl

/-- A station that speaks becomes ISOLATED, the run of its own break being taken as heard first. -/
theorem stuck_speaking (hst : s.view.station = .listenIn ∨ s.view.station = .active)
    (hsend : s.line.driving = true → s.line.sending = none) : s.stuck = enter s .isolated (isolatedLine s.line
      (if s.line.driving then { s.line.counters with breaksHeard := bump s.line.counters.breaksHeard }
        else s.line.counters)) (.lineEvent s.straps.stn .isolated) .lineIsolated := by
  have hspeaks := (speaks_iff _).mpr hst
  rw [stuck_eq, atStuckWire]
  cases hdrive : s.line.driving with
  | false =>
    exact (if_pos hspeaks).trans (enterIsolated_eq s.line)
  | true =>
    rw [if_pos rfl, hearBreak_quiet (hsend hdrive), placeLoadIfSpeaking_eq]
    exact (if_pos hspeaks).trans (enterIsolated_eq _)

theorem stuck_silent (hst : s.view.station = .isolated ∨ s.view.station = .duplicate) (hdrive : s.line.driving = false) :
    s.stuck = { s with line := { s.line with bits := ⟨0, 64⟩ } } := by
  have hsilent : ¬ s.view.station.speaks = true := by
    rcases hst with h | h <;> rw [h] <;> decide
  rw [stuck_eq, atStuckWire, hdrive]
  exact if_neg hsilent

end

/-- Settles O48: a station that speaks enters ISOLATED, and the wire restored brings it back. -/
theorem stuckLineIsolatesUntilRestored : Obligations.StuckLineIsolatesUntilRestored := by
  intro s hreset
  have hexec (h : s.view.station ≠ .solo) : exec .stuckLine s = .next s.stuck := whenever_true hreset (onLine_iff.mpr h)
  refine ⟨fun hst hdrive => ?_, fun hst hclaims hsend => ?_, fun hst => ?_⟩
  · rw [hexec (by rcases hst with h | h <;> rw [h] <;> decide), stuck_silent hst hdrive]
  · have hends := enter_ends hclaims .isolated (isolatedLine s.line
      (if s.line.driving then { s.line.counters with breaksHeard := bump s.line.counters.breaksHeard }
        else s.line.counters)) (.lineEvent s.straps.stn .isolated) .lineIsolated
    rw [← stuck_speaking hst hsend] at hends
    exact ⟨_, hexec (by rcases hst with h | h <;> rw [h] <;> decide), hends.view, hends.line, hends.adm, hends.flows,
      hends.port, hends.rest⟩
  · exact whenever_true hreset (beq_iff_eq.mpr hst)

/-! ## Duplicate detections (R118, R126, R142) -/

/-- The line of a station that became DUPLICATE, with the receiver and the counters as given. -/
def duplicateLine (x : Line) (r : Receiver) (k : LineCounters) : Line :=
  { x with
    receiver := r, counters := k, sendList := [], sending := none, pendingBreak := false
    driving := false, freePoint := .normal, bodyLoss := false, bits := ⟨0, 0⟩ }

/-- A duplicate detection whose character leaves the receiver and the counters as given. -/
def Detects (s t : State) (r : Receiver) (k : LineCounters) : Prop :=
  EndsAdmission s t .duplicate (duplicateLine s.line r k) (.peerEvent s.straps.stn .duplicate) .duplicateStation

section
variable {s t : State} {r : Receiver} {k : LineCounters}

theorem detectDuplicate_detects (hst : s.view.station = .listenIn ∨ s.view.station = .active) (hclaims : s.ClaimsConsistent) :
    Detects s (lineAt s r k).detectDuplicate r k := by
  have hdetect : (lineAt s r k).detectDuplicate =
      enter s .duplicate (duplicateLine s.line r k) (.peerEvent s.straps.stn .duplicate) .duplicateStation :=
    if_pos ((speaks_iff _).mpr hst)
  rw [hdetect]
  exact enter_ends hclaims _ _ _ _

theorem detectDuplicate_silent (h : s.view.station = .duplicate) : s.detectDuplicate = s :=
  if_neg (by rw [h]; decide)

theorem Detects.setReceiver (h : Detects s t r k) (q : Receiver) : Detects s (t.setReceiver q) q k := by
  have hline : t.setReceiver q = { t with line := duplicateLine s.line q k } := by
    rw [State.setReceiver, State.modLine, h.line]
    rfl
  rw [hline]
  exact h.reline _

theorem Detects.formatError (h : Detects s t r k) : Detects s t.formatError r (formatCounted k) := by
  have hline : t.formatError = { t with line := duplicateLine s.line r (formatCounted k) } := by
    rw [State.formatError, State.modLine, h.line]
    rfl
  rw [hline]
  exact h.reline _

theorem Detects.checkError (h : Detects s t r k) :
    Detects s (t.modLine (fun x => x.count (fun c => { c with checkErrors := bump c.checkErrors }))) r
      { k with checkErrors := bump k.checkErrors } := by
  have hline : t.modLine (fun x => x.count (fun c => { c with checkErrors := bump c.checkErrors })) =
      { t with line := duplicateLine s.line r { k with checkErrors := bump k.checkErrors } } := by
    rw [State.modLine, h.line]
    rfl
  rw [hline]
  exact h.reline _

/-- A station that is DUPLICATE already discards a valid notice with its own number. -/
theorem Detects.judgeNotice (h : Detects s t r k) {cs : List Byte} {n : Notice} (hread : readNotice cs = some n)
    (hown : senderOf (cs.headD 0#8) = s.straps.stn) : Detects s (t.judgeNotice cs) r
      (if cs.sum ≠ 0#8 then { k with checkErrors := bump k.checkErrors }
        else if n.maskOk = true then k else formatCounted k) := by
  by_cases hsum : cs.sum = 0#8
  · rw [if_neg (not_not.mpr hsum)]
    cases hmask : n.maskOk with
    | true =>
      have hstn : s.straps.stn = t.straps.stn := by rw [h.rest]
      have hdup : t.view.station = .duplicate := by rw [h.view]
      rw [judgeNotice_valid hsum hread hmask, hown, handOn_own hstn, detectDuplicate_silent hdup]
      exact h
    | false =>
      rw [judgeNotice_mask hsum hread hmask]
      exact h.formatError
  · rw [if_pos hsum, judgeNotice_check hsum]
    exact h.checkError

theorem Detects.takeHeader_known (h : Detects s t r k) {value : Byte} (hk : Known value) :
    Detects s (t.takeHeader value) (.inNotice [value]) k := by
  have hheader : t.takeHeader value = t.setReceiver (.inNotice [value]) := by
    rw [State.takeHeader, noticeLength_known hk]
  rw [hheader]
  exact h.setReceiver _

theorem Detects.takeHeader_unknown (h : Detects s t r k) {value : Byte} (hk : ¬ Known value) :
    Detects s (t.takeHeader value) .hunt (formatCounted k) := by
  have hheader : t.takeHeader value = (t.setReceiver .hunt).formatError := by
    rw [State.takeHeader, noticeLength_unknown hk]
  rw [hheader]
  exact (h.setReceiver _).formatError

/-- A loss inside the character is judged a duplicate detection at its stop bit (R118, R126). -/
theorem atStopBit_detects (hst : s.view.station = .listenIn ∨ s.view.station = .active) (hclaims : s.ClaimsConsistent)
    (hloss : s.line.bodyLoss = true) : Detects s (atStopBit s) s.line.receiver s.line.counters := by
  have hstop : atStopBit s = (lineAt s s.line.receiver s.line.counters).detectDuplicate := by
    rw [atStopBit, hloss]
    rfl
  rw [hstop]
  exact detectDuplicate_detects hst hclaims

end

/-- Settles O46: the detection at the stop bit or at the end of a valid notice, and what its character does then. -/
theorem duplicateDetectionsEndAdmission : Obligations.DuplicateDetectionsEndAdmission := by
  intro s cs last hreset hsend hrecv hhead valid k format
  have hexec (hline : s.onLine = true) (mark : Bool) :
      exec (.characterReceived last mark) s = .next (s.takeCharacter last mark) ∧
        exec (.noticeReceived last) s = .next (s.takeCharacter last false) ∧
        exec (.unknownHeader last) s = .next (s.takeCharacter last true) :=
    ⟨whenActing_acting hreset, whenActing_acting hreset, whenActing_acting hreset⟩
  refine ⟨fun hst hloss ⟨n, hread, hsum, hmask⟩ => ?_, fun hst hclaims c receiver counters hcases => ?_⟩
  · rw [exec_noticeReceived_read hreset (by rw [hst]; decide) hsend hloss hrecv hread hhead,
      judgeNotice_valid hsum hread hmask, headD_sender hhead,
      handOn_lineAt_own, detectDuplicate_silent (s := lineAt s _ _) hst, lineAt_calm hloss]
  · intro ended
    have hspeaks : s.view.station ≠ .solo := by rcases hst with h | h <;> rw [h] <;> decide
    have hline := onLine_iff.mpr hspeaks
    have hstop (hloss : s.line.bodyLoss = true) : Detects s (atStopBit s) (.inNotice cs) k :=
      hrecv ▸ atStopBit_detects hst hclaims hloss
    have hquiet (hloss : s.line.bodyLoss = true) : (atStopBit s).line.sending = none := by rw [(hstop hloss).line]; rfl
    have hbody : s.takeCharacter last false = (atStopBit s).addCharacter cs last := takeCharacter_body hline hrecv
    have hheader := takeCharacter_header (value := last) hline hrecv
    have hdetects : ∃ t, exec c s = .next t ∧ Detects s t receiver counters := by
      obtain ⟨rfl, hloss, ⟨n, hread, hsum, hmask⟩, rfl, rfl⟩ | ⟨rfl, hloss, ⟨length, hlength, hlen⟩, rfl, rfl⟩ |
        ⟨hc, hloss, n, hread, rfl, rfl⟩ | ⟨hc, hloss, hkind⟩ := hcases
      · refine ⟨_, exec_noticeReceived_read hreset hspeaks hsend hloss hrecv hread hhead, ?_⟩
        rw [judgeNotice_valid hsum hread hmask, headD_sender hhead, handOn_lineAt_own]
        exact detectDuplicate_detects hst hclaims
      · refine ⟨_, (hexec hline false).1, ?_⟩
        obtain ⟨header, tail, rfl⟩ : ∃ header tail, cs = header :: tail := by
          cases cs with
          | nil => cases hhead
          | cons header tail => exact ⟨header, tail, rfl⟩
        rw [hbody, addCharacter_short hlength hlen]
        exact (hstop hloss).setReceiver _
      · refine ⟨(atStopBit s).addCharacter cs last, ?_, ?_⟩
        · rcases hc with rfl | rfl
          · rw [(hexec hline false).1, hbody]
          · rw [(hexec hline false).2.1, hbody]
        · rw [addCharacter_read (hquiet hloss) hread hhead]
          exact ((hstop hloss).setReceiver _).judgeNotice hread (headD_sender hhead)
      · refine ⟨(((atStopBit s).setReceiver .hunt).formatError).takeHeader last, ?_, ?_⟩
        · rcases hc with rfl | rfl
          · rw [(hexec hline true).1, hheader]
          · rw [(hexec hline true).2.2, hheader]
        · have hpartial := ((hstop hloss).setReceiver .hunt).formatError
          by_cases hk : last.toNat / 16 = 2 ∨ last.toNat / 16 = 5 ∨ last.toNat / 16 = 9
          · rw [if_pos hk] at hkind
            obtain ⟨rfl, rfl⟩ := hkind
            exact hpartial.takeHeader_known hk
          · rw [if_neg hk] at hkind
            obtain ⟨rfl, rfl⟩ := hkind
            exact hpartial.takeHeader_unknown hk
    obtain ⟨t, hnext, h⟩ := hdetects
    exact ⟨t, hnext, h.view, h.line, h.adm, h.flows, h.port, h.rest⟩

end Sys2Proof.Proofs.Notices
end

section
/-! The timers of the Share View: the end of LISTEN_IN and the refresh tick (R136, R137, R139). -/

namespace Sys2Proof.Proofs.ShareView

open Sys2Proof Sys2Proof.Machine Sys2Proof.Proofs.Frames Sys2Proof.Proofs.FlowEnds Sys2Proof.Proofs.CardPort
  Sys2Proof.Proofs.PeerLine Sys2Proof.Proofs.Claims

/-! ## The refresh tick ages the peers (R136) -/

section
variable (stn : StationId) (i : StationId) (e : PeerEntry)

/-- A peer's entry after one tick of a station with the number given. -/
def agedEntry : PeerEntry :=
  if i = stn ∨ e.state = .absent then e
  else if 8 ≤ e.age + 1 then ⟨.absent, 0, 0, 0, 0⟩
  else if e.age + 1 = 3 ∧ e.state = .live then { e with state := .stale, age := 3 }
  else { e with age := e.age + 1 }

/-- The record of that tick, if there is one. -/
def ageRecord : Option Outcome :=
  if i = stn ∨ e.state = .absent then none
  else if 8 ≤ e.age + 1 then some (.peerEvent i .lost)
  else if e.age + 1 = 3 ∧ e.state = .live then some (.peerEvent i .stale)
  else none

end

section
variable (s : State)

theorem agePeer_eq (i : StationId) : s.agePeer i = { s.setPeer i (agedEntry s.straps.stn i (s.peer i)) with
    port := (ageRecord s.straps.stn i (s.peer i)).toList.foldl (fun p o => p.add s.stationTime o) s.port } := by
  unfold State.agePeer agedEntry ageRecord
  by_cases hidle : i = s.straps.stn ∨ (s.peer i).state = .absent
  · have hcond : (decide (i = s.straps.stn) || (s.peer i).state == .absent) = true := by simpa using hidle
    simp only [hcond, hidle, if_true, Notices.setPeer_peer]
    rfl
  · have hcond : ¬ (decide (i = s.straps.stn) || (s.peer i).state == .absent) = true := by simpa using hidle
    simp only [hcond, hidle, if_false]
    by_cases hlost : 8 ≤ (s.peer i).age + 1
    · rw [if_pos hlost, if_pos hlost]
      exact if_pos hlost
    · rw [if_neg hlost, if_neg hlost]
      refine (if_neg hlost).trans ?_
      by_cases hstale : (s.peer i).age + 1 = 3 ∧ (s.peer i).state = .live
      · rw [if_pos hstale, if_pos hstale]
        refine (if_pos hstale).trans ?_
        rw [hstale.1]
        rfl
      · rw [if_neg hstale, if_neg hstale]
        exact if_neg hstale

/-- Different peers age one after another, each by its own entry. -/
theorem foldl_agePeer {is : List StationId} (h : is.Nodup) :
    (∀ j, (is.foldl State.agePeer s).peer j = if j ∈ is then agedEntry s.straps.stn j (s.peer j) else s.peer j) ∧
      is.foldl State.agePeer s = { s with
        view := { s.view with peers := (is.foldl State.agePeer s).view.peers }
        port := (is.filterMap (fun i => ageRecord s.straps.stn i (s.peer i))).foldl (fun p o => p.add s.stationTime o)
          s.port } := by
  induction is generalizing s with
  | nil => exact ⟨fun _ => rfl, rfl⟩
  | cons i is ih =>
    obtain ⟨hi, his⟩ := List.nodup_cons.mp h
    obtain ⟨hpeer, hrest⟩ := ih (s.agePeer i) his
    have hother (j : StationId) (hj : j ≠ i) : (s.agePeer i).peer j = s.peer j := by
      rw [agePeer_eq]
      exact s.peer_setPeer_ne hj _
    have hself : (s.agePeer i).peer i = agedEntry s.straps.stn i (s.peer i) := by
      rw [agePeer_eq]
      exact s.peer_setPeer_self i _
    have hstraps : (s.agePeer i).straps = s.straps := by rw [agePeer_eq]; rfl
    refine ⟨fun j => ?_, ?_⟩
    · rw [List.foldl_cons, hpeer, hstraps]
      by_cases hj : j = i
      · subst hj
        rw [if_neg hi, if_pos List.mem_cons_self, hself]
      · rw [hother j hj]
        simp only [List.mem_cons, hj, false_or]
    · have hrecords : is.filterMap (fun j => ageRecord (s.agePeer i).straps.stn j ((s.agePeer i).peer j)) =
          is.filterMap (fun j => ageRecord s.straps.stn j (s.peer j)) := by
        refine List.filterMap_congr fun j hj => ?_
        rw [hstraps, hother j fun e => hi (e ▸ hj)]
      have hcons (g : StationId → Option Outcome) : (i :: is).filterMap g = (g i).toList ++ is.filterMap g := by
        cases hg : g i <;> simp [hg]
      rw [List.foldl_cons, hrest, hrecords, hcons, List.foldl_append]
      generalize ((is.foldl State.agePeer (s.agePeer i)).view.peers) = peers
      rw [agePeer_eq]
      rfl

theorem allStations_nodup : allStations.Nodup := List.nodup_finRange 16

theorem mem_allStations (i : StationId) : i ∈ allStations := List.mem_finRange i

/-- The station states in which the peers do not age. -/
abbrev Ageless : Prop := s.view.station = .solo ∨ s.view.station = .isolated

theorem ageless_iff : Ageless s ↔ ¬ (s.view.station.speaks || s.view.station == .duplicate) = true := by
  unfold Ageless
  cases s.view.station <;> decide

theorem agePeers_ageless (h : Ageless s) : s.agePeers = s := if_neg ((ageless_iff s).mp h)

theorem agePeers_ages (h : ¬ Ageless s) : s.agePeers = allStations.foldl State.agePeer s :=
  if_pos (not_not.mp (mt (ageless_iff s).mpr h))

/-- The peer's entry after a tick, whatever the station state. -/
theorem agePeers_peer (i : StationId) : s.agePeers.peer i =
    if i = s.straps.stn ∨ (s.peer i).state = .absent ∨ Ageless s then s.peer i
    else agedEntry s.straps.stn i (s.peer i) := by
  by_cases h : Ageless s
  · rw [agePeers_ageless s h, if_pos (.inr (.inr h))]
  · rw [agePeers_ages s h, (foldl_agePeer s allStations_nodup).1, if_pos (mem_allStations i)]
    by_cases hidle : i = s.straps.stn ∨ (s.peer i).state = .absent
    · rw [if_pos (or_assoc.mp (.inl hidle)), agedEntry, if_pos hidle]
    · rw [if_neg (fun hc => (or_assoc.mpr hc).elim hidle h)]

/-- The records of a tick, in the order of the station numbers (log 14). -/
def tickRecords : List Outcome :=
  allStations.filterMap (fun i =>
    if i = s.straps.stn ∨ (s.peer i).state = .absent ∨ Ageless s then none else ageRecord s.straps.stn i (s.peer i))

theorem ifs_agedEntry (i : StationId) :
    (if i = s.straps.stn ∨ (s.peer i).state = .absent ∨ Ageless s then s.peer i
      else agedEntry s.straps.stn i (s.peer i)) =
    if i = s.straps.stn ∨ (s.peer i).state = .absent ∨ Ageless s then s.peer i
    else if 8 ≤ (s.peer i).age + 1 then ⟨.absent, 0, 0, 0, 0⟩
    else if (s.peer i).age + 1 = 3 ∧ (s.peer i).state = .live then { s.peer i with state := .stale, age := 3 }
    else { s.peer i with age := (s.peer i).age + 1 } := by
  split
  · rfl
  next h => rw [agedEntry, if_neg (fun hc => h (or_assoc.mp (.inl hc)))]

theorem tickRecords_eq : tickRecords s = allStations.filterMap (fun i =>
    if i = s.straps.stn ∨ (s.peer i).state = .absent ∨ Ageless s then none
    else if 8 ≤ (s.peer i).age + 1 then some (.peerEvent i .lost)
    else if (s.peer i).age + 1 = 3 ∧ (s.peer i).state = .live then some (.peerEvent i .stale)
    else none) := by
  refine List.filterMap_congr fun i _ => ?_
  split
  · rfl
  next h => rw [ageRecord, if_neg (fun hc => h (or_assoc.mp (.inl hc)))]

theorem agePeers_rest : s.agePeers = { s with
    view := { s.view with peers := s.agePeers.view.peers }
    port := (tickRecords s).foldl (fun p o => p.add s.stationTime o) s.port } := by
  by_cases h : Ageless s
  · have hnone : tickRecords s = [] := by simp [tickRecords, h]
    rw [agePeers_ageless s h, hnone]
    rfl
  · have hages : tickRecords s = allStations.filterMap (fun i => ageRecord s.straps.stn i (s.peer i)) := by
      refine List.filterMap_congr fun i _ => ?_
      by_cases hidle : i = s.straps.stn ∨ (s.peer i).state = .absent
      · rw [if_pos (or_assoc.mp (.inl hidle)), ageRecord, if_pos hidle]
      · rw [if_neg (fun hc => (or_assoc.mpr hc).elim hidle h)]
    rw [hages, agePeers_ages s h]
    exact (foldl_agePeer s allStations_nodup).2

end

/-- Settles O51: each peer ages by its own entry, and a LOAD is placed where the station speaks. -/
theorem shareViewTimersExpire : Obligations.ShareViewTimersExpire := by
  intro s hreset
  refine ⟨fun deadline hst hlisten => ?_, ?_⟩
  · intro claimed clock base
    have hexec : exec .listenInTimeout s = .next base.place := by
      change execListenInTimeout s = _
      rw [execListenInTimeout, hlisten]
      exact whenever_true hreset (beq_iff_eq.mpr hst)
    refine ⟨fun hidle => ?_, fun f rest hnone hqueue => ?_⟩
    · rw [hexec]
      refine congrArg _ ?_
      rcases hidle with h | h
      · exact place_idle (s := base) (.inr h)
      · exact place_busy (s := base) h
    · rw [hexec, place_next (s := base) rfl hnone hqueue]
      rfl
  · have hpeer := agePeers_peer s.restartRefresh
    have hrest := agePeers_rest s.restartRefresh
    refine ⟨_, whenActing_acting hreset, ?_⟩
    rw [placeLoadIfSpeaking_eq]
    generalize s.restartRefresh.agePeers = u at hpeer hrest ⊢
    refine ⟨fun i => (hpeer i).trans ?_, ?_, ?_, ?_, ?_, ?_⟩
    · exact ifs_agedEntry s i
    · rw [hrest]
      rfl
    · rw [hrest]
      rfl
    · rw [hrest]
      rfl
    · rw [hrest]
      exact congrArg (fun os => List.foldl (fun (q : Port) o => q.add s.stationTime o) s.port os) (tickRecords_eq s)
    · rw [hrest]
      rfl

end Sys2Proof.Proofs.ShareView
end

section
/-! The formats: the characters of a notice and the records of the intake stream read back as they were written (R113,
R159, R170, spec/12). -/

namespace Sys2Proof.Proofs.Formats

open Sys2Proof Sys2Proof.Machine Sys2Proof.Laws

/-! ## Numbers as bytes -/

theorem fromBytes_append (bs : List Byte) (b : Byte) : fromBytes (bs ++ [b]) = fromBytes bs * 256 + b.toNat := by
  rw [fromBytes, List.foldl_append]
  rfl

/-- The low bytes of a number spell its remainder. -/
theorem fromBytes_bigEndian (width x : Nat) : fromBytes (bigEndian width x) = x % 256 ^ width := by
  induction width generalizing x with
  | zero => exact (Nat.mod_one x).symm
  | succ width ih =>
    have hlow : (BitVec.ofNat 8 x).toNat = x % 256 := BitVec.toNat_ofNat x 8
    have hsplit : x % (256 * 256 ^ width) = x % 256 + 256 * (x / 256 % 256 ^ width) := Nat.mod_mul
    rw [bigEndian, fromBytes_append, ih, hlow, Nat.pow_succ', hsplit]
    omega

theorem fromBytes_bigEndian_of_lt {width x : Nat} (h : x < 256 ^ width) : fromBytes (bigEndian width x) = x := by
  rw [fromBytes_bigEndian, Nat.mod_eq_of_lt h]

/-- A word written in bytes that it fills reads back. -/
theorem word_reads_back {w width : Nat} (h : 256 ^ width = 2 ^ w) (x : BitVec w) :
    BitVec.ofNat w (fromBytes (bigEndian width x.toNat)) = x := by
  rw [fromBytes_bigEndian_of_lt (h ▸ x.isLt), BitVec.ofNat_toNat, BitVec.setWidth_eq]

/-! ## Notices (R113) -/

theorem header_toNat (i : StationId) {kind : Nat} (h : kind < 16) : (StationId.header i kind).toNat = kind * 16 + i.val := by
  rw [StationId.header, BitVec.toNat_ofNat]
  omega

theorem header_kind (i : StationId) {kind : Nat} (h : kind < 16) : (StationId.header i kind).toNat / 16 = kind := by
  rw [header_toNat i h]
  omega

theorem senderOf_header (i : StationId) {kind : Nat} (h : kind < 16) : senderOf (StationId.header i kind) = i := by
  refine Fin.ext ?_
  change (StationId.header i kind).toNat % 16 = i.val
  rw [header_toNat i h]
  omega

theorem kind_lt (n : Notice) : n.kind < 16 := by cases n <;> simp [Notice.kind]

/-- The length that the header of a notice gives. -/
theorem noticeLength_header (i : StationId) (n : Notice) :
    noticeLength (StationId.header i n.kind) = some (if n.kind = 9 then 9 else 6) := by
  have hkind := header_kind i (kind_lt n)
  have hknown : PeerLine.Known (StationId.header i n.kind) := by
    rw [PeerLine.Known, hkind]
    cases n <;> simp [Notice.kind]
  rw [PeerLine.noticeLength_known hknown, hkind]

theorem check_sum (body : List Byte) : (body ++ [checkOf body]).sum = 0#8 := by
  rw [List.sum_append, checkOf]
  simp

/-- Eleven bit times for each character (R111). -/
theorem noticeBits_length (cs : List Byte) : (noticeBits cs).length = 11 * cs.length := by
  have hchar (c : Byte) (mark : Bool) : (charBits c mark).length = 11 := rfl
  have hrest (rest : List Byte) : (rest.flatMap (fun c => charBits c false)).length = 11 * rest.length := by
    induction rest with
    | nil => rfl
    | cons c rest ih =>
      rw [List.flatMap_cons, List.length_append, ih, hchar, List.length_cons]
      omega
  cases cs with
  | nil => rfl
  | cons h rest =>
    rw [noticeBits, List.length_append, hrest, hchar, List.length_cons]
    omega

section
variable {h m x y z c : Byte}

theorem readNotice_yield (hk : h.toNat / 16 = 2) :
    readNotice [h, m, x, y, z, c] = some (.yield m.toNat (fromBytes [x, y, z])) := by
  simp only [readNotice, hk]

theorem readNotice_claim (hk : h.toNat / 16 = 5) :
    readNotice [h, m, x, y, z, c] = some (.claim m.toNat (fromBytes [x, y, z])) := by
  simp only [readNotice, hk]

theorem readNotice_load {a b d e n : Byte} (hk : h.toNat / 16 = 9) : readNotice [h, a, b, d, x, y, z, n, e] =
    some (.load (fromBytes [a, b, d]) (fromBytes [x, y, z]) n.toNat) := by
  simp only [readNotice, hk]

end

/-- Settles O50: the characters of each kind, read by the code in the header. -/
theorem noticesReadBackAsSent : Obligations.NoticesReadBackAsSent := by
  intro n i hfits cs
  have hkind := header_kind i (kind_lt n)
  have hhead : cs.head?.map senderOf = some i := congrArg some (senderOf_header i (kind_lt n))
  have hsum : cs.sum = 0#8 := check_sum _
  have hbits := noticeBits_length cs
  have hbyte {x : Nat} (h : x < 256) : (BitVec.ofNat 8 x).toNat = x := by
    rw [BitVec.toNat_ofNat]
    exact Nat.mod_eq_of_lt h
  have hthree {x : Nat} (h : x < 16777216) :
      fromBytes [BitVec.ofNat 8 (x / 256 / 256), BitVec.ofNat 8 (x / 256), BitVec.ofNat 8 x] = x :=
    fromBytes_bigEndian_of_lt (width := 3) h
  cases n with
  | yield m x =>
    obtain ⟨hm, hx⟩ := hfits
    refine ⟨(readNotice_yield hkind).trans ?_, hsum, hhead, noticeLength_header i (.yield m x), hbits⟩
    rw [hbyte hm, hthree hx]
  | claim m x =>
    obtain ⟨hm, hx⟩ := hfits
    refine ⟨(readNotice_claim hkind).trans ?_, hsum, hhead, noticeLength_header i (.claim m x), hbits⟩
    rw [hbyte hm, hthree hx]
  | load a b count =>
    obtain ⟨ha, hb, hcount⟩ := hfits
    refine ⟨(readNotice_load hkind).trans ?_, hsum, hhead, noticeLength_header i (.load a b count), hbits⟩
    rw [hthree ha, hthree hb, hbyte hcount]

/-! ## Intake records (spec/12, R159, R170) -/

/-- A whole record with the length field of its bytes. -/
theorem readRecord_of_length {tag subject : Byte} {rest : List Byte} (h : rest.length < 65536) :
    readRecord (tag :: subject :: bigEndian 2 rest.length ++ rest) =
      if tag.getLsbD 7 then some (readDirective rest)
      else some (.packetArrival subject (tag.getLsbD 2) (tag.getLsbD 1) (tag.getLsbD 0) rest) :=
  if_pos (fromBytes_bigEndian_two h).symm

theorem tagByte_packet (fs ro rc : Bool) : (tagByte false fs ro rc).getLsbD 7 = false ∧
    (tagByte false fs ro rc).getLsbD 2 = fs ∧ (tagByte false fs ro rc).getLsbD 1 = ro ∧
      (tagByte false fs ro rc).getLsbD 0 = rc := by
  cases fs <;> cases ro <;> cases rc <;> decide

/-- A directive's record is read by its body. -/
theorem readRecord_directive {body : List Byte} (h : body.length < 65536) :
    readRecord (directiveRecord body) = some (readDirective body) := (readRecord_of_length h).trans (if_pos rfl)

/-- The fields of a DECLARE body read back, each from its own bytes. -/
theorem readDeclare_declareBody (d : Declaration) : readDeclare ((declareBody d).drop 1) = d := by
  have hpn := word_reads_back (width := 5) (by decide) d.pn
  have hpd := word_reads_back (width := 3) (by decide) d.pd
  have ho := word_reads_back (width := 4) (by decide) d.o
  have htwo (x : BitVec 16) := word_reads_back (width := 2) (by decide) x
  simp only [bigEndian, List.nil_append, List.cons_append] at hpn hpd ho htwo
  simp only [declareBody, readDeclare, bigEndian, List.nil_append, List.cons_append, List.drop_succ_cons, List.drop_zero,
    List.take_succ_cons, List.take_zero, List.getD_cons_succ, List.getD_cons_zero, hpn, hpd, ho, htwo]

theorem readDirective_declareBody (d : Declaration) : readDirective (declareBody d) = .declare d := by
  have hlength : ((declareBody d).drop 1).length = 29 := by rw [List.length_drop, declareBody_length]
  have hread (rest : List Byte) (h : rest.length = 29) : readDirective (codeDeclare :: rest) = .declare (readDeclare rest) :=
    if_pos (by rw [h]; decide)
  have hbody : declareBody d = codeDeclare :: (declareBody d).drop 1 := by
    simp only [declareBody, List.cons_append, List.drop_succ_cons, List.drop_zero]
  rw [hbody, hread _ hlength, readDeclare_declareBody]

/-- Settles O60: by the command, the directives through their bodies. -/
theorem recordsReadBackAsWritten : Obligations.RecordsReadBackAsWritten := by
  intro c bytes hwf hwrite
  have hdirective {body : List Byte} (hlen : body.length < 65536) (hread : readDirective body = c)
      (hrecord : directiveRecord body = bytes) : readRecord bytes = some c := by
    rw [← hrecord, readRecord_directive hlen, hread]
  cases c with
  | packetArrival flow fs ro rc body =>
    obtain ⟨hdir, hfs, hro, hrc⟩ := tagByte_packet fs ro rc
    have hrecord : tagByte false fs ro rc :: flow :: bigEndian 2 body.length ++ body = bytes := Option.some.inj hwrite
    rw [← hrecord, readRecord_of_length ((lengthFits_iff body).mp hwf), hdir, hfs, hro, hrc]
    rfl
  | declare d =>
    exact hdirective (by rw [declareBody_length]; decide) (readDirective_declareBody d) (Option.some.inj hwrite)
  | close flow => exact hdirective (by simp) rfl (Option.some.inj hwrite)
  | abandon flow => exact hdirective (by simp) rfl (Option.some.inj hwrite)
  | queryFlow flow => exact hdirective (by simp) rfl (Option.some.inj hwrite)
  | queryPeers => exact hdirective (by simp) rfl (Option.some.inj hwrite)
  | queryStation => exact hdirective (by simp) rfl (Option.some.inj hwrite)
  | legControlOut leg => exact hdirective (by simp) rfl (Option.some.inj hwrite)
  | legControlIn leg => exact hdirective (by simp) rfl (Option.some.inj hwrite)
  | unknownDirective body =>
    obtain ⟨hlen, hread⟩ := Bool.and_eq_true_iff.mp hwf
    exact hdirective ((lengthFits_iff body).mp hlen) (beq_iff_eq.mp hread) (Option.some.inj hwrite)
  | _ => cases hwrite

end Sys2Proof.Proofs.Formats
end
